-- ==== Sys2Proof/Word.lean ====
section
/-! DEFINITION. The word types of the i8008 core (00_scope R5, R6): a byte, a 14-bit address, the
16-bit container of an address-stack slot. -/

namespace Sys2Proof

/-- An 8-bit value: a register, a bus byte, an opcode (R5 `XLEN`). -/
abbrev Byte := BitVec 8

/-- A 14-bit address (R5 `ADDR_BITS`); its sum wraps modulo 2^14 (R25). -/
abbrev Address := BitVec 14

/-- The 16-bit container of an address-stack entry (R5 `SLOT_BITS`, R24). -/
abbrev Slot := BitVec 16

end Sys2Proof
end

