-- ==== Sys2Proof/Config.lean ====
section
/-! DEFINITION. The parameters of 00_scope R5 that carry a value of their own, at the values the spec
gives them, and the three FREE VALUES of the model: constants with no body, which no proof can evaluate. -/

namespace Sys2Proof.Config

/-- T2 tag of an instruction-fetch cycle, PCI (R56, decision D9). -/
def tagPCI : BitVec 2 := 0b00#2

/-- T2 tag of a data-read cycle, PCR (R56, decision D9). -/
def tagPCR : BitVec 2 := 0b10#2

/-- T2 tag of a command (I/O) cycle, PCC (R56, decision D9). -/
def tagPCC : BitVec 2 := 0b01#2

/-- T2 tag of a data-write cycle, PCW (R56, decision D9). -/
def tagPCW : BitVec 2 := 0b11#2

/-- T2 tag of immediate and address-byte reads, `IMM_TAG` (R59, decision D10). -/
def immTag : BitVec 2 := tagPCR

/-- The byte driven on a read data phase, `T3_READ_OUT` (R51). -/
def t3ReadOut : Byte := 0x00#8

/-- The byte driven on a STOPPED transaction, `STOPPED_OUT` (R51, decision D15). -/
def stoppedOut : Byte := 0x00#8

/-- `RST_SHIFT`: a restart vector is its field shifted left by this (R90, decision D7). -/
def rstShift : Nat := 3

/-- `EMIT_T4T5`: the visibility transactions T4 and T5 are performed (R63, decision D13). -/
def emitT4T5 : Bool := true

/-- FREE VALUE (log entry 3). The byte an input port answers at the n-th transaction of a run when the
environment's script gives none (93_implementation_defined U6: "any value"). -/
opaque freeInput : Nat → Byte

/-- FREE VALUE (log entry 4). The byte the environment answers at the n-th transaction of a run, where the
core ignores the answer and the environment's script gives none (93_implementation_defined U5: "any value"). -/
opaque freeAnswer : Nat → Byte

/-- FREE VALUE (log entry 3). The opcode the environment forces at the n-th transaction of a run when
its script gives none (R54 "a self-chosen opcode"; 93_implementation_defined U7: "any value"). -/
opaque freeOpcode : Nat → Byte

end Sys2Proof.Config
end

