-- ==== Sys2Proof/Machine/State.lean ====
section
/-! DEFINITION. The state of the machine as plain data: the core's own state (10_state R20) and, beside
it, the environment the core exchanges bus transactions with (00_scope R9), its memory, its coming
moves and the trace of the transactions performed (R8). -/

namespace Sys2Proof.Machine

/-- The seven general registers, `r[0]` to `r[6]` (R21). -/
structure RegFile where
  a : Byte
  b : Byte
  c : Byte
  d : Byte
  e : Byte
  h : Byte
  l : Byte
  deriving DecidableEq, Repr

/-- The four flags: carry, zero, sign, parity (R27). -/
structure Flags where
  c : Bool
  z : Bool
  s : Bool
  p : Bool
  deriving DecidableEq, Repr

/-- RUNNING or STOPPED (R33). -/
inductive RunState where
  | running
  | stopped
  deriving DecidableEq, Repr

/-- The fault latch (R34). -/
inductive FaultLatch where
  /-- no fault -/
  | none
  /-- an unimplemented opcode was decoded; `op` is its byte (R231) -/
  | unimplementedOpcode (op : Byte)
  deriving DecidableEq, Repr

/-- The eight bus states (R51). -/
inductive BusState where
  | t1
  | t1I
  | t2
  | t3
  | t4
  | t5
  | wait
  | stopped
  deriving DecidableEq, Repr

/-- One bus transaction of the trace, the triple `(state, out, in)` of R8 and R50: its bus state, the byte the
core drove, and the byte the environment answered. Where the core ignores the answer and the environment's
script does not give it, that byte is a free value (log entry 4). -/
structure Transaction where
  phase : BusState
  out : Byte
  inp : Byte
  deriving DecidableEq, Repr

/-- What the environment does inside one coming transaction (R9, R74): the byte it answers, where the
script fixes it, and whether it sets `interrupt_request` (log entry 2). -/
structure Reply where
  answer : Option Byte
  request : Bool
  deriving DecidableEq, Repr

/-- Who moves at the next step (R9, R74 last row): the core, or the environment with one of the two moves
it has between the core's steps (log entry 5). -/
inductive Turn where
  /-- the core performs its step (R100) -/
  | core
  /-- the environment calls `RequestInterrupt()` (R232) -/
  | requestInterrupt
  /-- the environment asserts reset (R261) -/
  | reset
  deriving DecidableEq, Repr

/-- Memory: (address, byte) pairs, addresses strictly rising, no pair whose byte is what an unlisted
address reads as (Machine/Memory.lean says both). -/
abbrev Memory := List Host.Cell

/-- The state. The first eight fields are the core's (R20); the last four are the environment's memory,
its coming answers and moves, and the trace (R8, R9, R52). -/
structure State where
  /-- A, B, C, D, E, H, L (R21) -/
  regs : RegFile
  /-- carry, zero, sign, parity (R27) -/
  flags : Flags
  /-- the address stack, eight 16-bit containers (R24); the current one is the program counter (R25) -/
  stack : Vector Slot 8
  /-- the stack index, 3 bits (R24) -/
  sp : BitVec 3
  /-- the pending-interrupt latch (R31) -/
  interruptRequest : Bool
  /-- true only while an interrupt-forced instruction cycle runs (R32) -/
  interruptCycle : Bool
  /-- RUNNING or STOPPED (R33) -/
  run : RunState
  /-- the fault latch (R34) -/
  fault : FaultLatch
  /-- the environment's memory, 2^14 bytes (R52, log entry 1); that ONE array answers instruction fetches and
  data reads and takes data writes, whatever the cycle-type tag, is the model's choice (log entry 21) -/
  mem : Memory
  /-- the environment's behaviour in the coming transactions, the next first; beyond its end the
  environment requests nothing and its memory answers (log entry 2) -/
  script : List Reply
  /-- whose moves come next, the next first; beyond its end the core steps (log entry 5) -/
  schedule : List Turn
  /-- the transactions performed, the oldest first (R8, log entry 4) -/
  trace : List Transaction
  deriving DecidableEq, Repr

/-- Why a step ends in a fault. -/
inductive Fault where
  /-- Raised by a core step of a core whose fault latch holds `op`: "no step exists" (R100, R248). SAFE: the
  hardware makes no step there either. -/
  | coreFaulted (op : Byte)
  deriving DecidableEq, Repr

/-- Why a step is refused. -/
inductive Refusal where
  /-- Answered by an arm of `exec` that has no meaning yet (no arm of this model). SAFE. -/
  | notModelled (mnemonic : String)
  deriving DecidableEq, Repr

/-- What a step or a meaning answers. -/
abbrev Result := Host.Outcome State Fault Refusal

/-- The machine right after reset (R38, R260): every piece of the core's state at the value R38 gives it,
and the one STOPPED transaction of R260 in the trace, its ignored answer a free value (log entry 4). Memory
lists nothing, the environment's script and schedule are empty (log entry 15). -/
def State.reset : State where
  regs := ⟨0, 0, 0, 0, 0, 0, 0⟩
  flags := ⟨false, false, false, false⟩
  stack := Vector.replicate 8 0
  sp := 0
  interruptRequest := false
  interruptCycle := false
  run := .stopped
  fault := .none
  mem := []
  script := []
  schedule := []
  trace := [⟨.stopped, 0x00, Config.freeAnswer 0⟩]

end Sys2Proof.Machine
end

