-- ==== Sys2Proof/Syntax.lean ====
section
/-! DEFINITION. The instructions: one constructor per mnemonic of spec/opcode_table.json. A constructor's
arguments are the bits its encoding leaves free: the operand bytes (R80, R89) and, for an alias family, the
opcode bits the decoder ignores (R94; R92 for `HLT`), so that decoding loses no bit (log entry 9). -/

namespace Sys2Proof

/-- The general registers, selector values 0 to 6 (R85). -/
inductive Reg where
  | a | b | c | d | e | h | l
  deriving DecidableEq, Repr

/-- The ALU operations, numbers 0 to 7 (R86). -/
inductive AluOp where
  | add | addCarry | sub | subBorrow | and | xor | or | compare
  deriving DecidableEq, Repr

/-- The conditions, numbers 0 to 3 (R87). -/
inductive Condition where
  | carry | zero | sign | parity
  deriving DecidableEq, Repr

/-- The rotate variants, numbers 0 to 3 (R88). -/
inductive RotateOp where
  | leftCircular | rightCircular | leftThroughCarry | rightThroughCarry
  deriving DecidableEq, Repr

/-- The instructions. `imm` is `imm8`, `lo` and `hi` are `addr_lo` and `addr_hi` (R80), `x` the ignored opcode
bits (R94), `op` the opcode byte of `HLT` (R92). -/
inductive Instr where
  | laa
  | lab
  | lac
  | lad
  | lae
  | lah
  | lal
  | lba
  | lbb
  | lbc
  | lbd
  | lbe
  | lbh
  | lbl
  | lca
  | lcb
  | lcc
  | lcd
  | lce
  | lch
  | lcl
  | lda
  | ldb
  | ldc
  | ldd
  | lde
  | ldh
  | ldl
  | lea
  | leb
  | lec
  | led
  | lee
  | leh
  | lel
  | lha
  | lhb
  | lhc
  | lhd
  | lhe
  | lhh
  | lhl
  | lla
  | llb
  | llc
  | lld
  | lle
  | llh
  | lll
  | lam
  | lbm
  | lcm
  | ldm
  | lem
  | lhm
  | llm
  | lma
  | lmb
  | lmc
  | lmd
  | lme
  | lmh
  | lml
  | lai (imm : Byte)
  | lbi (imm : Byte)
  | lci (imm : Byte)
  | ldi (imm : Byte)
  | lei (imm : Byte)
  | lhi (imm : Byte)
  | lli (imm : Byte)
  | lmi (imm : Byte)
  | ada
  | adb
  | adc
  | add
  | ade
  | adh
  | adl
  | adm
  | adi (imm : Byte)
  | aca
  | acb
  | acc
  | acd
  | ace
  | ach
  | acl
  | acm
  | aci (imm : Byte)
  | sua
  | sub
  | suc
  | sud
  | sue
  | suh
  | sul
  | sum
  | sui (imm : Byte)
  | sba
  | sbb
  | sbc
  | sbd
  | sbe
  | sbh
  | sbl
  | sbm
  | sbi (imm : Byte)
  | nda
  | ndb
  | ndc
  | ndd
  | nde
  | ndh
  | ndl
  | ndm
  | ndi (imm : Byte)
  | xra
  | xrb
  | xrc
  | xrd
  | xre
  | xrh
  | xrl
  | xrm
  | xri (imm : Byte)
  | ora
  | orb
  | orc
  | ord
  | ore
  | orh
  | orl
  | orm
  | ori (imm : Byte)
  | cpa
  | cpb
  | cpc
  | cpd
  | cpe
  | cph
  | cpl
  | cpm
  | cpi (imm : Byte)
  | inb
  | inc
  | ind
  | ine
  | inh
  | inl
  | dcb
  | dcc
  | dcd
  | dce
  | dch
  | dcl
  | unimpl_inm
  | unimpl_dcm
  | rlc (x : BitVec 1)
  | rrc (x : BitVec 1)
  | ral (x : BitVec 1)
  | rar (x : BitVec 1)
  | jmp (x : BitVec 3) (lo : Byte) (hi : Byte)
  | jfc (lo : Byte) (hi : Byte)
  | jfz (lo : Byte) (hi : Byte)
  | jfs (lo : Byte) (hi : Byte)
  | jfp (lo : Byte) (hi : Byte)
  | jtc (lo : Byte) (hi : Byte)
  | jtz (lo : Byte) (hi : Byte)
  | jts (lo : Byte) (hi : Byte)
  | jtp (lo : Byte) (hi : Byte)
  | cal (x : BitVec 3) (lo : Byte) (hi : Byte)
  | cfc (lo : Byte) (hi : Byte)
  | cfz (lo : Byte) (hi : Byte)
  | cfs (lo : Byte) (hi : Byte)
  | cfp (lo : Byte) (hi : Byte)
  | ctc (lo : Byte) (hi : Byte)
  | ctz (lo : Byte) (hi : Byte)
  | cts (lo : Byte) (hi : Byte)
  | ctp (lo : Byte) (hi : Byte)
  | ret (x : BitVec 3)
  | rfc
  | rfz
  | rfs
  | rfp
  | rtc
  | rtz
  | rts
  | rtp
  | rst_0
  | rst_1
  | rst_2
  | rst_3
  | rst_4
  | rst_5
  | rst_6
  | rst_7
  | inp_0
  | inp_1
  | inp_2
  | inp_3
  | inp_4
  | inp_5
  | inp_6
  | inp_7
  | out_8
  | out_9
  | out_10
  | out_11
  | out_12
  | out_13
  | out_14
  | out_15
  | out_16
  | out_17
  | out_18
  | out_19
  | out_20
  | out_21
  | out_22
  | out_23
  | out_24
  | out_25
  | out_26
  | out_27
  | out_28
  | out_29
  | out_30
  | out_31
  | hlt (op : Byte)
  deriving DecidableEq, Repr

end Sys2Proof
end

