-- ==== Sys2Proof/Machine/Flags.lean ====
section
/-! DEFINITION. Every flag computation of the spec: `ZSP` (R28), the ALU function and its flag algebra
(R154, R155), the carry of the rotates (R180 to R183), the condition test (R107), the flag byte of `INP`
(R212). -/

namespace Sys2Proof.Machine

/-- The number of one bits of a byte. -/
def popcount (v : Byte) : Nat :=
  v[0].toNat + v[1].toNat + v[2].toNat + v[3].toNat + v[4].toNat + v[5].toNat + v[6].toNat + v[7].toNat

/-- Parity: true means an even number of one bits (R28). -/
def evenParity (v : Byte) : Bool := popcount v % 2 == 0

/-- `ZSP(v)`: zero, sign and parity written together from `v`; carry kept (R28, R29). -/
def Flags.zsp (f : Flags) (v : Byte) : Flags :=
  { f with z := v == 0, s := v[7], p := evenParity v }

/-- Carry written, zero, sign and parity kept (R29, the rotates). -/
def Flags.setCarry (f : Flags) (c : Bool) : Flags := { f with c := c }

/-- The ALU function's nine-bit result `w` (R154). -/
def alu : AluOp → Byte → Byte → Bool → BitVec 9
  | .add, a, b, _ => a.zeroExtend 9 + b.zeroExtend 9
  | .addCarry, a, b, cin => a.zeroExtend 9 + b.zeroExtend 9 + (BitVec.ofBool cin).zeroExtend 9
  | .sub, a, b, _ => a.zeroExtend 9 - b.zeroExtend 9
  | .subBorrow, a, b, cin => a.zeroExtend 9 - b.zeroExtend 9 - (BitVec.ofBool cin).zeroExtend 9
  | .and, a, b, _ => (a &&& b).zeroExtend 9
  | .xor, a, b, _ => (a ^^^ b).zeroExtend 9
  | .or, a, b, _ => (a ||| b).zeroExtend 9
  | .compare, a, b, _ => a.zeroExtend 9 - b.zeroExtend 9

/-- The eight-bit result, `w[7:0]` (R154). -/
def aluResult (w : BitVec 9) : Byte := w.extractLsb' 0 8

/-- Which operations write carry: all but the three logic operations (R155, decision D21 for compare). -/
def aluWritesCarry : AluOp → Bool
  | .and | .xor | .or => false
  | .add | .addCarry | .sub | .subBorrow | .compare => true

/-- Which operations write A: all but compare (R155). -/
def aluWritesA : AluOp → Bool
  | .compare => false
  | .add | .addCarry | .sub | .subBorrow | .and | .xor | .or => true

/-- The flag algebra of the ALU family (R155). -/
def Flags.afterAlu (f : Flags) (op : AluOp) (w : BitVec 9) : Flags :=
  (if aluWritesCarry op then f.setCarry w[8] else f).zsp (aluResult w)

/-- The flag a condition selects (R87). -/
def Flags.select (f : Flags) : Condition → Bool
  | .carry => f.c
  | .zero => f.z
  | .sign => f.s
  | .parity => f.p

/-- `Cond(t, cc)`: the selected flag equals the sense `t` (R107). -/
def Flags.cond (f : Flags) (t : Bool) (cc : Condition) : Bool := f.select cc == t

/-- `FLAG_BYTE`: bit 0 sign, bit 1 zero, bit 2 parity, bit 3 carry, bits 7 to 4 zero (R212). -/
def Flags.byte (f : Flags) : Byte :=
  0b0000#4 ++ BitVec.ofBool f.c ++ BitVec.ofBool f.p ++ BitVec.ofBool f.z ++ BitVec.ofBool f.s

/-- The accumulator after a rotate, from its old value and the old carry (R180 to R183). -/
def rotateResult : RotateOp → Byte → Bool → Byte
  | .leftCircular, a, _ => a.extractLsb' 0 7 ++ a.extractLsb' 7 1
  | .rightCircular, a, _ => a.extractLsb' 0 1 ++ a.extractLsb' 1 7
  | .leftThroughCarry, a, cin => a.extractLsb' 0 7 ++ BitVec.ofBool cin
  | .rightThroughCarry, a, cin => BitVec.ofBool cin ++ a.extractLsb' 1 7

/-- The carry after a rotate: the bit rotated out (R180 to R183). -/
def rotateCarry : RotateOp → Byte → Bool
  | .leftCircular, a => a[7]
  | .rightCircular, a => a[0]
  | .leftThroughCarry, a => a[7]
  | .rightThroughCarry, a => a[0]

end Sys2Proof.Machine
end

