-- ==== Sys2Proof/WellFormed.lean ====
section
/-! DEFINITION. Which terms of `Instr` stand for words of the machine. The operand types admit exactly the
values the encodings admit (R80 to R91), so ONE check is left: `HLT` has the opcode bytes 0x00, 0x01 and
0xFF and no other (R92). -/

namespace Sys2Proof

/-- The instruction stands for a word of the machine. -/
def Instr.wellFormed : Instr → Bool
  | .laa => true
  | .lab => true
  | .lac => true
  | .lad => true
  | .lae => true
  | .lah => true
  | .lal => true
  | .lba => true
  | .lbb => true
  | .lbc => true
  | .lbd => true
  | .lbe => true
  | .lbh => true
  | .lbl => true
  | .lca => true
  | .lcb => true
  | .lcc => true
  | .lcd => true
  | .lce => true
  | .lch => true
  | .lcl => true
  | .lda => true
  | .ldb => true
  | .ldc => true
  | .ldd => true
  | .lde => true
  | .ldh => true
  | .ldl => true
  | .lea => true
  | .leb => true
  | .lec => true
  | .led => true
  | .lee => true
  | .leh => true
  | .lel => true
  | .lha => true
  | .lhb => true
  | .lhc => true
  | .lhd => true
  | .lhe => true
  | .lhh => true
  | .lhl => true
  | .lla => true
  | .llb => true
  | .llc => true
  | .lld => true
  | .lle => true
  | .llh => true
  | .lll => true
  | .lam => true
  | .lbm => true
  | .lcm => true
  | .ldm => true
  | .lem => true
  | .lhm => true
  | .llm => true
  | .lma => true
  | .lmb => true
  | .lmc => true
  | .lmd => true
  | .lme => true
  | .lmh => true
  | .lml => true
  | .lai _ => true
  | .lbi _ => true
  | .lci _ => true
  | .ldi _ => true
  | .lei _ => true
  | .lhi _ => true
  | .lli _ => true
  | .lmi _ => true
  | .ada => true
  | .adb => true
  | .adc => true
  | .add => true
  | .ade => true
  | .adh => true
  | .adl => true
  | .adm => true
  | .adi _ => true
  | .aca => true
  | .acb => true
  | .acc => true
  | .acd => true
  | .ace => true
  | .ach => true
  | .acl => true
  | .acm => true
  | .aci _ => true
  | .sua => true
  | .sub => true
  | .suc => true
  | .sud => true
  | .sue => true
  | .suh => true
  | .sul => true
  | .sum => true
  | .sui _ => true
  | .sba => true
  | .sbb => true
  | .sbc => true
  | .sbd => true
  | .sbe => true
  | .sbh => true
  | .sbl => true
  | .sbm => true
  | .sbi _ => true
  | .nda => true
  | .ndb => true
  | .ndc => true
  | .ndd => true
  | .nde => true
  | .ndh => true
  | .ndl => true
  | .ndm => true
  | .ndi _ => true
  | .xra => true
  | .xrb => true
  | .xrc => true
  | .xrd => true
  | .xre => true
  | .xrh => true
  | .xrl => true
  | .xrm => true
  | .xri _ => true
  | .ora => true
  | .orb => true
  | .orc => true
  | .ord => true
  | .ore => true
  | .orh => true
  | .orl => true
  | .orm => true
  | .ori _ => true
  | .cpa => true
  | .cpb => true
  | .cpc => true
  | .cpd => true
  | .cpe => true
  | .cph => true
  | .cpl => true
  | .cpm => true
  | .cpi _ => true
  | .inb => true
  | .inc => true
  | .ind => true
  | .ine => true
  | .inh => true
  | .inl => true
  | .dcb => true
  | .dcc => true
  | .dcd => true
  | .dce => true
  | .dch => true
  | .dcl => true
  | .unimpl_inm => true
  | .unimpl_dcm => true
  | .rlc _ => true
  | .rrc _ => true
  | .ral _ => true
  | .rar _ => true
  | .jmp _ _ _ => true
  | .jfc _ _ => true
  | .jfz _ _ => true
  | .jfs _ _ => true
  | .jfp _ _ => true
  | .jtc _ _ => true
  | .jtz _ _ => true
  | .jts _ _ => true
  | .jtp _ _ => true
  | .cal _ _ _ => true
  | .cfc _ _ => true
  | .cfz _ _ => true
  | .cfs _ _ => true
  | .cfp _ _ => true
  | .ctc _ _ => true
  | .ctz _ _ => true
  | .cts _ _ => true
  | .ctp _ _ => true
  | .ret _ => true
  | .rfc => true
  | .rfz => true
  | .rfs => true
  | .rfp => true
  | .rtc => true
  | .rtz => true
  | .rts => true
  | .rtp => true
  | .rst_0 => true
  | .rst_1 => true
  | .rst_2 => true
  | .rst_3 => true
  | .rst_4 => true
  | .rst_5 => true
  | .rst_6 => true
  | .rst_7 => true
  | .inp_0 => true
  | .inp_1 => true
  | .inp_2 => true
  | .inp_3 => true
  | .inp_4 => true
  | .inp_5 => true
  | .inp_6 => true
  | .inp_7 => true
  | .out_8 => true
  | .out_9 => true
  | .out_10 => true
  | .out_11 => true
  | .out_12 => true
  | .out_13 => true
  | .out_14 => true
  | .out_15 => true
  | .out_16 => true
  | .out_17 => true
  | .out_18 => true
  | .out_19 => true
  | .out_20 => true
  | .out_21 => true
  | .out_22 => true
  | .out_23 => true
  | .out_24 => true
  | .out_25 => true
  | .out_26 => true
  | .out_27 => true
  | .out_28 => true
  | .out_29 => true
  | .out_30 => true
  | .out_31 => true
  | .hlt op => op == 0x00#8 || op == 0x01#8 || op == 0xFF#8

end Sys2Proof
end

