-- ==== Sys2Proof/Decode.lean ====
section
/-! DEFINITION. The decoder, total on the 256 opcode bytes (30_encoding R82 to R96, 40_fetch_decode R103),
and after it the encoder, written from the same encoding tables. -/

namespace Sys2Proof

/-! ## Fields of the opcode byte (R81) -/

/-- Bits 7 and 6, the class. -/
def fieldClass (op : Byte) : BitVec 2 := op.extractLsb' 6 2

/-- Bits 5 to 3, the D field. -/
def fieldD (op : Byte) : BitVec 3 := op.extractLsb' 3 3

/-- Bits 2 to 0, the S field. -/
def fieldS (op : Byte) : BitVec 3 := op.extractLsb' 0 3

/-- Bits 4 and 3: condition (R87) or rotate variant (R88). -/
def fieldCC (op : Byte) : BitVec 2 := op.extractLsb' 3 2

/-- Bits 5 to 1: the port number (R91). -/
def fieldPort (op : Byte) : BitVec 5 := op.extractLsb' 1 5

/-- Register selector values (R85); `none` is 7, the memory operand selector (R22). -/
def Reg.ofBits (v : BitVec 3) : Option Reg :=
  match v.toNat with
  | 0 => some .a
  | 1 => some .b
  | 2 => some .c
  | 3 => some .d
  | 4 => some .e
  | 5 => some .h
  | 6 => some .l
  | _ => none

/-- ALU operation numbers (R86). -/
def AluOp.ofBits (v : BitVec 3) : AluOp :=
  match v.toNat with
  | 0 => .add
  | 1 => .addCarry
  | 2 => .sub
  | 3 => .subBorrow
  | 4 => .and
  | 5 => .xor
  | 6 => .or
  | _ => .compare

/-- Condition numbers (R87). -/
def Condition.ofBits (v : BitVec 2) : Condition :=
  match v.toNat with
  | 0 => .carry
  | 1 => .zero
  | 2 => .sign
  | _ => .parity

/-- Rotate variants (R88). -/
def RotateOp.ofBits (v : BitVec 2) : RotateOp :=
  match v.toNat with
  | 0 => .leftCircular
  | 1 => .rightCircular
  | 2 => .leftThroughCarry
  | _ => .rightThroughCarry

/-! ## Families: the constructor that a family's fields name (R82, R83, R84, R97) -/

/-- `L d s` (R120). -/
def loadInstr : Reg → Reg → Instr
  | .a, .a => .laa
  | .a, .b => .lab
  | .a, .c => .lac
  | .a, .d => .lad
  | .a, .e => .lae
  | .a, .h => .lah
  | .a, .l => .lal
  | .b, .a => .lba
  | .b, .b => .lbb
  | .b, .c => .lbc
  | .b, .d => .lbd
  | .b, .e => .lbe
  | .b, .h => .lbh
  | .b, .l => .lbl
  | .c, .a => .lca
  | .c, .b => .lcb
  | .c, .c => .lcc
  | .c, .d => .lcd
  | .c, .e => .lce
  | .c, .h => .lch
  | .c, .l => .lcl
  | .d, .a => .lda
  | .d, .b => .ldb
  | .d, .c => .ldc
  | .d, .d => .ldd
  | .d, .e => .lde
  | .d, .h => .ldh
  | .d, .l => .ldl
  | .e, .a => .lea
  | .e, .b => .leb
  | .e, .c => .lec
  | .e, .d => .led
  | .e, .e => .lee
  | .e, .h => .leh
  | .e, .l => .lel
  | .h, .a => .lha
  | .h, .b => .lhb
  | .h, .c => .lhc
  | .h, .d => .lhd
  | .h, .e => .lhe
  | .h, .h => .lhh
  | .h, .l => .lhl
  | .l, .a => .lla
  | .l, .b => .llb
  | .l, .c => .llc
  | .l, .d => .lld
  | .l, .e => .lle
  | .l, .h => .llh
  | .l, .l => .lll

/-- `L d M` (R121). -/
def loadMemInstr : Reg → Instr
  | .a => .lam
  | .b => .lbm
  | .c => .lcm
  | .d => .ldm
  | .e => .lem
  | .h => .lhm
  | .l => .llm

/-- `LM s` (R122). -/
def storeInstr : Reg → Instr
  | .a => .lma
  | .b => .lmb
  | .c => .lmc
  | .d => .lmd
  | .e => .lme
  | .h => .lmh
  | .l => .lml

/-- `L d I` (R123). -/
def loadImmInstr : Reg → Byte → Instr
  | .a, imm => .lai imm
  | .b, imm => .lbi imm
  | .c, imm => .lci imm
  | .d, imm => .ldi imm
  | .e, imm => .lei imm
  | .h, imm => .lhi imm
  | .l, imm => .lli imm

/-- The ALU register forms (R130 to R151, every third). -/
def aluRegInstr : AluOp → Reg → Instr
  | .add, .a => .ada
  | .add, .b => .adb
  | .add, .c => .adc
  | .add, .d => .add
  | .add, .e => .ade
  | .add, .h => .adh
  | .add, .l => .adl
  | .addCarry, .a => .aca
  | .addCarry, .b => .acb
  | .addCarry, .c => .acc
  | .addCarry, .d => .acd
  | .addCarry, .e => .ace
  | .addCarry, .h => .ach
  | .addCarry, .l => .acl
  | .sub, .a => .sua
  | .sub, .b => .sub
  | .sub, .c => .suc
  | .sub, .d => .sud
  | .sub, .e => .sue
  | .sub, .h => .suh
  | .sub, .l => .sul
  | .subBorrow, .a => .sba
  | .subBorrow, .b => .sbb
  | .subBorrow, .c => .sbc
  | .subBorrow, .d => .sbd
  | .subBorrow, .e => .sbe
  | .subBorrow, .h => .sbh
  | .subBorrow, .l => .sbl
  | .and, .a => .nda
  | .and, .b => .ndb
  | .and, .c => .ndc
  | .and, .d => .ndd
  | .and, .e => .nde
  | .and, .h => .ndh
  | .and, .l => .ndl
  | .xor, .a => .xra
  | .xor, .b => .xrb
  | .xor, .c => .xrc
  | .xor, .d => .xrd
  | .xor, .e => .xre
  | .xor, .h => .xrh
  | .xor, .l => .xrl
  | .or, .a => .ora
  | .or, .b => .orb
  | .or, .c => .orc
  | .or, .d => .ord
  | .or, .e => .ore
  | .or, .h => .orh
  | .or, .l => .orl
  | .compare, .a => .cpa
  | .compare, .b => .cpb
  | .compare, .c => .cpc
  | .compare, .d => .cpd
  | .compare, .e => .cpe
  | .compare, .h => .cph
  | .compare, .l => .cpl

/-- The ALU memory forms (R131 to R152, every third). -/
def aluMemInstr : AluOp → Instr
  | .add => .adm
  | .addCarry => .acm
  | .sub => .sum
  | .subBorrow => .sbm
  | .and => .ndm
  | .xor => .xrm
  | .or => .orm
  | .compare => .cpm

/-- The ALU immediate forms (R132 to R153, every third). -/
def aluImmInstr : AluOp → Byte → Instr
  | .add, imm => .adi imm
  | .addCarry, imm => .aci imm
  | .sub, imm => .sui imm
  | .subBorrow, imm => .sbi imm
  | .and, imm => .ndi imm
  | .xor, imm => .xri imm
  | .or, imm => .ori imm
  | .compare, imm => .cpi imm

/-- `IN r` (R170); with A selected the byte `op` is `HLT` (R92, R173). -/
def incInstr : Reg → Byte → Instr
  | .a, op => .hlt op
  | .b, _ => .inb
  | .c, _ => .inc
  | .d, _ => .ind
  | .e, _ => .ine
  | .h, _ => .inh
  | .l, _ => .inl

/-- `DC r` (R171); with A selected the byte `op` is `HLT` (R92, R173). -/
def decInstr : Reg → Byte → Instr
  | .a, op => .hlt op
  | .b, _ => .dcb
  | .c, _ => .dcc
  | .d, _ => .dcd
  | .e, _ => .dce
  | .h, _ => .dch
  | .l, _ => .dcl

/-- The rotates (R180 to R183), with the ignored bit 5. -/
def rotateInstr : RotateOp → BitVec 1 → Instr
  | .leftCircular, x => .rlc x
  | .rightCircular, x => .rrc x
  | .leftThroughCarry, x => .ral x
  | .rightThroughCarry, x => .rar x

/-- `JF c` and `JT c` (R192, R193). -/
def jumpIfInstr : Bool → Condition → Byte → Byte → Instr
  | false, .carry, lo, hi => .jfc lo hi
  | false, .zero, lo, hi => .jfz lo hi
  | false, .sign, lo, hi => .jfs lo hi
  | false, .parity, lo, hi => .jfp lo hi
  | true, .carry, lo, hi => .jtc lo hi
  | true, .zero, lo, hi => .jtz lo hi
  | true, .sign, lo, hi => .jts lo hi
  | true, .parity, lo, hi => .jtp lo hi

/-- `CF c` and `CT c` (R195, R196). -/
def callIfInstr : Bool → Condition → Byte → Byte → Instr
  | false, .carry, lo, hi => .cfc lo hi
  | false, .zero, lo, hi => .cfz lo hi
  | false, .sign, lo, hi => .cfs lo hi
  | false, .parity, lo, hi => .cfp lo hi
  | true, .carry, lo, hi => .ctc lo hi
  | true, .zero, lo, hi => .ctz lo hi
  | true, .sign, lo, hi => .cts lo hi
  | true, .parity, lo, hi => .ctp lo hi

/-- `RF c` and `RT c` (R201, R202). -/
def returnIfInstr : Bool → Condition → Instr
  | false, .carry => .rfc
  | false, .zero => .rfz
  | false, .sign => .rfs
  | false, .parity => .rfp
  | true, .carry => .rtc
  | true, .zero => .rtz
  | true, .sign => .rts
  | true, .parity => .rtp

/-- `RST n` (R203). -/
def rstInstr (n : BitVec 3) : Instr :=
  match n.toNat with
  | 0 => .rst_0
  | 1 => .rst_1
  | 2 => .rst_2
  | 3 => .rst_3
  | 4 => .rst_4
  | 5 => .rst_5
  | 6 => .rst_6
  | _ => .rst_7

/-- `INP p` for ports 0 to 7, `OUT p` for ports 8 to 31 (R91, R210, R211). -/
def ioInstr (p : BitVec 5) : Instr :=
  match p.toNat with
  | 0 => .inp_0
  | 1 => .inp_1
  | 2 => .inp_2
  | 3 => .inp_3
  | 4 => .inp_4
  | 5 => .inp_5
  | 6 => .inp_6
  | 7 => .inp_7
  | 8 => .out_8
  | 9 => .out_9
  | 10 => .out_10
  | 11 => .out_11
  | 12 => .out_12
  | 13 => .out_13
  | 14 => .out_14
  | 15 => .out_15
  | 16 => .out_16
  | 17 => .out_17
  | 18 => .out_18
  | 19 => .out_19
  | 20 => .out_20
  | 21 => .out_21
  | 22 => .out_22
  | 23 => .out_23
  | 24 => .out_24
  | 25 => .out_25
  | 26 => .out_26
  | 27 => .out_27
  | 28 => .out_28
  | 29 => .out_29
  | 30 => .out_30
  | _ => .out_31

/-! ## The decoder (R103) -/

/-- Class 0, by sub-operation (R83). The HLT and unimplemented patterns are tested before the general form
(R92, R93, R173). -/
def classZero (op b1 : Byte) : Instr :=
  match (fieldS op).toNat with
  | 0 =>
    match Reg.ofBits (fieldD op) with
    | none => .unimpl_inm
    | some r => incInstr r op
  | 1 =>
    match Reg.ofBits (fieldD op) with
    | none => .unimpl_dcm
    | some r => decInstr r op
  | 2 => rotateInstr (RotateOp.ofBits (fieldCC op)) (op.extractLsb' 5 1)
  | 3 => returnIfInstr op[5] (Condition.ofBits (fieldCC op))
  | 4 => aluImmInstr (AluOp.ofBits (fieldD op)) b1
  | 5 => rstInstr (fieldD op)
  | 6 =>
    match Reg.ofBits (fieldD op) with
    | none => .lmi b1
    | some r => loadImmInstr r b1
  | _ => .ret (fieldD op)

/-- Class 1: bit 0 selects I/O (R82, R91); else bit 2 is unconditional, bit 1 call, bit 5 the sense (R84). -/
def classOne (op b1 b2 : Byte) : Instr :=
  if op[0] then ioInstr (fieldPort op)
  else if op[2] then (if op[1] then .cal (fieldD op) b1 b2 else .jmp (fieldD op) b1 b2)
  else if op[1] then callIfInstr op[5] (Condition.ofBits (fieldCC op)) b1 b2
  else jumpIfInstr op[5] (Condition.ofBits (fieldCC op)) b1 b2

/-- Class 2: the ALU register and memory forms (R82). -/
def classTwo (op : Byte) : Instr :=
  match Reg.ofBits (fieldS op) with
  | none => aluMemInstr (AluOp.ofBits (fieldD op))
  | some r => aluRegInstr (AluOp.ofBits (fieldD op)) r

/-- Class 3: the loads; both selectors 7 is `HLT` (R82, R92). -/
def classThree (op : Byte) : Instr :=
  match Reg.ofBits (fieldD op), Reg.ofBits (fieldS op) with
  | none, none => .hlt op
  | some dst, none => loadMemInstr dst
  | none, some src => storeInstr src
  | some dst, some src => loadInstr dst src

/-- The instruction that the opcode byte `op` spells, followed by the bytes `b1` and `b2` (of which it uses
as many as `instrLength` says). Total: every opcode byte is exactly one instruction (R95). -/
def instrOf (op b1 b2 : Byte) : Instr :=
  match (fieldClass op).toNat with
  | 0 => classZero op b1
  | 1 => classOne op b1 b2
  | 2 => classTwo op
  | _ => classThree op

/-- The length in bytes, from the opcode alone (R96). -/
def instrLength (op : Byte) : Nat :=
  if fieldClass op = 1 ∧ op[0] = false then 3
  else if fieldClass op = 0 ∧ (fieldS op = 4 ∨ fieldS op = 6) then 2
  else 1

/-- Why a byte string spells no instruction. -/
inductive DecodeError where
  /-- there is no byte at all -/
  | empty
  /-- the string ends before the last byte of the instruction that `op` begins -/
  | truncated (op : Byte)
  deriving DecidableEq, Repr

/-- The instruction at the head of a byte string and the bytes after it. Total; it rejects a string that is
too short, by name, and nothing else (R95: no opcode is illegal or reserved). -/
def decode : List Byte → Except DecodeError (Instr × List Byte)
  | [] => .error .empty
  | op :: rest =>
    match instrLength op, rest with
    | 1, _ => .ok (instrOf op 0 0, rest)
    | 2, b1 :: rest => .ok (instrOf op b1 0, rest)
    | 3, b1 :: b2 :: rest => .ok (instrOf op b1 b2, rest)
    | _, _ => .error (.truncated op)

/-- The instruction the decoder reads from the low `nbits` bits of `w` (bits above them 0), byte 0 first; the
machine's longest instruction has three bytes (R80). -/
def decodeTableWord (nbits w : Nat) : Option Instr :=
  let v := w % 2 ^ nbits
  match decode [BitVec.ofNat 8 v, BitVec.ofNat 8 (v >>> 8), BitVec.ofNat 8 (v >>> 16)] with
  | .ok (i, _) => some i
  | .error _ => none

/-! ## The encoder -/

/-- The 3-bit selector of a register (R85). -/
def Reg.bits : Reg → BitVec 3
  | .a => 0
  | .b => 1
  | .c => 2
  | .d => 3
  | .e => 4
  | .h => 5
  | .l => 6

/-- The memory operand selector (R22, R85). -/
def selectorM : BitVec 3 := 7

/-- The number of an ALU operation (R86). -/
def AluOp.bits : AluOp → BitVec 3
  | .add => 0
  | .addCarry => 1
  | .sub => 2
  | .subBorrow => 3
  | .and => 4
  | .xor => 5
  | .or => 6
  | .compare => 7

/-- The number of a condition (R87). -/
def Condition.bits : Condition → BitVec 2
  | .carry => 0
  | .zero => 1
  | .sign => 2
  | .parity => 3

/-- The number of a rotate variant (R88). -/
def RotateOp.bits : RotateOp → BitVec 2
  | .leftCircular => 0
  | .rightCircular => 1
  | .leftThroughCarry => 2
  | .rightThroughCarry => 3

/-- `11 ddd sss` (R120). -/
def opLoad (dst src : Reg) : Byte := 0b11#2 ++ dst.bits ++ src.bits

/-- `11 ddd 111` (R121). -/
def opLoadM (dst : Reg) : Byte := 0b11#2 ++ dst.bits ++ selectorM

/-- `11 111 sss` (R122). -/
def opStore (src : Reg) : Byte := 0b11#2 ++ selectorM ++ src.bits

/-- `00 ddd 110` (R123). -/
def opLoadImm (dst : Reg) : Byte := 0b00#2 ++ dst.bits ++ 0b110#3

/-- `00 111 110` (R124). -/
def opStoreImm : Byte := 0b00#2 ++ selectorM ++ 0b110#3

/-- `10 PPP sss` (R82, R86). -/
def opAluReg (p : AluOp) (src : Reg) : Byte := 0b10#2 ++ p.bits ++ src.bits

/-- `10 PPP 111` (R82, R86). -/
def opAluM (p : AluOp) : Byte := 0b10#2 ++ p.bits ++ selectorM

/-- `00 PPP 100` (R83, R86). -/
def opAluImm (p : AluOp) : Byte := 0b00#2 ++ p.bits ++ 0b100#3

/-- `00 ddd 000` (R170). -/
def opInc (dst : Reg) : Byte := 0b00#2 ++ dst.bits ++ 0b000#3

/-- `00 ddd 001` (R171). -/
def opDec (dst : Reg) : Byte := 0b00#2 ++ dst.bits ++ 0b001#3

/-- `00 xKK 010` (R88). -/
def opRotate (k : RotateOp) (x : BitVec 1) : Byte := 0b00#2 ++ x ++ k.bits ++ 0b010#3

/-- `01 xxx 100` (R191). -/
def opJmp (x : BitVec 3) : Byte := 0b01#2 ++ x ++ 0b100#3

/-- `01 TCC 000` (R192, R193). -/
def opJumpIf (t : Bool) (cc : Condition) : Byte := 0b01#2 ++ BitVec.ofBool t ++ cc.bits ++ 0b000#3

/-- `01 xxx 110` (R194). -/
def opCal (x : BitVec 3) : Byte := 0b01#2 ++ x ++ 0b110#3

/-- `01 TCC 010` (R195, R196). -/
def opCallIf (t : Bool) (cc : Condition) : Byte := 0b01#2 ++ BitVec.ofBool t ++ cc.bits ++ 0b010#3

/-- `00 xxx 111` (R200). -/
def opRet (x : BitVec 3) : Byte := 0b00#2 ++ x ++ 0b111#3

/-- `00 TCC 011` (R201, R202). -/
def opReturnIf (t : Bool) (cc : Condition) : Byte := 0b00#2 ++ BitVec.ofBool t ++ cc.bits ++ 0b011#3

/-- `00 aaa 101` (R203). -/
def opRst (n : BitVec 3) : Byte := 0b00#2 ++ n ++ 0b101#3

/-- `01 RRM MM1` (R91). -/
def opIo (p : BitVec 5) : Byte := 0b01#2 ++ p ++ 0b1#1

/-- The bytes of an instruction, the opcode first (R80). -/
def encode : Instr → List Byte
  | .laa => [opLoad .a .a]
  | .lab => [opLoad .a .b]
  | .lac => [opLoad .a .c]
  | .lad => [opLoad .a .d]
  | .lae => [opLoad .a .e]
  | .lah => [opLoad .a .h]
  | .lal => [opLoad .a .l]
  | .lba => [opLoad .b .a]
  | .lbb => [opLoad .b .b]
  | .lbc => [opLoad .b .c]
  | .lbd => [opLoad .b .d]
  | .lbe => [opLoad .b .e]
  | .lbh => [opLoad .b .h]
  | .lbl => [opLoad .b .l]
  | .lca => [opLoad .c .a]
  | .lcb => [opLoad .c .b]
  | .lcc => [opLoad .c .c]
  | .lcd => [opLoad .c .d]
  | .lce => [opLoad .c .e]
  | .lch => [opLoad .c .h]
  | .lcl => [opLoad .c .l]
  | .lda => [opLoad .d .a]
  | .ldb => [opLoad .d .b]
  | .ldc => [opLoad .d .c]
  | .ldd => [opLoad .d .d]
  | .lde => [opLoad .d .e]
  | .ldh => [opLoad .d .h]
  | .ldl => [opLoad .d .l]
  | .lea => [opLoad .e .a]
  | .leb => [opLoad .e .b]
  | .lec => [opLoad .e .c]
  | .led => [opLoad .e .d]
  | .lee => [opLoad .e .e]
  | .leh => [opLoad .e .h]
  | .lel => [opLoad .e .l]
  | .lha => [opLoad .h .a]
  | .lhb => [opLoad .h .b]
  | .lhc => [opLoad .h .c]
  | .lhd => [opLoad .h .d]
  | .lhe => [opLoad .h .e]
  | .lhh => [opLoad .h .h]
  | .lhl => [opLoad .h .l]
  | .lla => [opLoad .l .a]
  | .llb => [opLoad .l .b]
  | .llc => [opLoad .l .c]
  | .lld => [opLoad .l .d]
  | .lle => [opLoad .l .e]
  | .llh => [opLoad .l .h]
  | .lll => [opLoad .l .l]
  | .lam => [opLoadM .a]
  | .lbm => [opLoadM .b]
  | .lcm => [opLoadM .c]
  | .ldm => [opLoadM .d]
  | .lem => [opLoadM .e]
  | .lhm => [opLoadM .h]
  | .llm => [opLoadM .l]
  | .lma => [opStore .a]
  | .lmb => [opStore .b]
  | .lmc => [opStore .c]
  | .lmd => [opStore .d]
  | .lme => [opStore .e]
  | .lmh => [opStore .h]
  | .lml => [opStore .l]
  | .lai imm => [opLoadImm .a, imm]
  | .lbi imm => [opLoadImm .b, imm]
  | .lci imm => [opLoadImm .c, imm]
  | .ldi imm => [opLoadImm .d, imm]
  | .lei imm => [opLoadImm .e, imm]
  | .lhi imm => [opLoadImm .h, imm]
  | .lli imm => [opLoadImm .l, imm]
  | .lmi imm => [opStoreImm, imm]
  | .ada => [opAluReg .add .a]
  | .adb => [opAluReg .add .b]
  | .adc => [opAluReg .add .c]
  | .add => [opAluReg .add .d]
  | .ade => [opAluReg .add .e]
  | .adh => [opAluReg .add .h]
  | .adl => [opAluReg .add .l]
  | .adm => [opAluM .add]
  | .adi imm => [opAluImm .add, imm]
  | .aca => [opAluReg .addCarry .a]
  | .acb => [opAluReg .addCarry .b]
  | .acc => [opAluReg .addCarry .c]
  | .acd => [opAluReg .addCarry .d]
  | .ace => [opAluReg .addCarry .e]
  | .ach => [opAluReg .addCarry .h]
  | .acl => [opAluReg .addCarry .l]
  | .acm => [opAluM .addCarry]
  | .aci imm => [opAluImm .addCarry, imm]
  | .sua => [opAluReg .sub .a]
  | .sub => [opAluReg .sub .b]
  | .suc => [opAluReg .sub .c]
  | .sud => [opAluReg .sub .d]
  | .sue => [opAluReg .sub .e]
  | .suh => [opAluReg .sub .h]
  | .sul => [opAluReg .sub .l]
  | .sum => [opAluM .sub]
  | .sui imm => [opAluImm .sub, imm]
  | .sba => [opAluReg .subBorrow .a]
  | .sbb => [opAluReg .subBorrow .b]
  | .sbc => [opAluReg .subBorrow .c]
  | .sbd => [opAluReg .subBorrow .d]
  | .sbe => [opAluReg .subBorrow .e]
  | .sbh => [opAluReg .subBorrow .h]
  | .sbl => [opAluReg .subBorrow .l]
  | .sbm => [opAluM .subBorrow]
  | .sbi imm => [opAluImm .subBorrow, imm]
  | .nda => [opAluReg .and .a]
  | .ndb => [opAluReg .and .b]
  | .ndc => [opAluReg .and .c]
  | .ndd => [opAluReg .and .d]
  | .nde => [opAluReg .and .e]
  | .ndh => [opAluReg .and .h]
  | .ndl => [opAluReg .and .l]
  | .ndm => [opAluM .and]
  | .ndi imm => [opAluImm .and, imm]
  | .xra => [opAluReg .xor .a]
  | .xrb => [opAluReg .xor .b]
  | .xrc => [opAluReg .xor .c]
  | .xrd => [opAluReg .xor .d]
  | .xre => [opAluReg .xor .e]
  | .xrh => [opAluReg .xor .h]
  | .xrl => [opAluReg .xor .l]
  | .xrm => [opAluM .xor]
  | .xri imm => [opAluImm .xor, imm]
  | .ora => [opAluReg .or .a]
  | .orb => [opAluReg .or .b]
  | .orc => [opAluReg .or .c]
  | .ord => [opAluReg .or .d]
  | .ore => [opAluReg .or .e]
  | .orh => [opAluReg .or .h]
  | .orl => [opAluReg .or .l]
  | .orm => [opAluM .or]
  | .ori imm => [opAluImm .or, imm]
  | .cpa => [opAluReg .compare .a]
  | .cpb => [opAluReg .compare .b]
  | .cpc => [opAluReg .compare .c]
  | .cpd => [opAluReg .compare .d]
  | .cpe => [opAluReg .compare .e]
  | .cph => [opAluReg .compare .h]
  | .cpl => [opAluReg .compare .l]
  | .cpm => [opAluM .compare]
  | .cpi imm => [opAluImm .compare, imm]
  | .inb => [opInc .b]
  | .inc => [opInc .c]
  | .ind => [opInc .d]
  | .ine => [opInc .e]
  | .inh => [opInc .h]
  | .inl => [opInc .l]
  | .dcb => [opDec .b]
  | .dcc => [opDec .c]
  | .dcd => [opDec .d]
  | .dce => [opDec .e]
  | .dch => [opDec .h]
  | .dcl => [opDec .l]
  | .unimpl_inm => [0x38#8]
  | .unimpl_dcm => [0x39#8]
  | .rlc x => [opRotate .leftCircular x]
  | .rrc x => [opRotate .rightCircular x]
  | .ral x => [opRotate .leftThroughCarry x]
  | .rar x => [opRotate .rightThroughCarry x]
  | .jmp x lo hi => [opJmp x, lo, hi]
  | .jfc lo hi => [opJumpIf false .carry, lo, hi]
  | .jfz lo hi => [opJumpIf false .zero, lo, hi]
  | .jfs lo hi => [opJumpIf false .sign, lo, hi]
  | .jfp lo hi => [opJumpIf false .parity, lo, hi]
  | .jtc lo hi => [opJumpIf true .carry, lo, hi]
  | .jtz lo hi => [opJumpIf true .zero, lo, hi]
  | .jts lo hi => [opJumpIf true .sign, lo, hi]
  | .jtp lo hi => [opJumpIf true .parity, lo, hi]
  | .cal x lo hi => [opCal x, lo, hi]
  | .cfc lo hi => [opCallIf false .carry, lo, hi]
  | .cfz lo hi => [opCallIf false .zero, lo, hi]
  | .cfs lo hi => [opCallIf false .sign, lo, hi]
  | .cfp lo hi => [opCallIf false .parity, lo, hi]
  | .ctc lo hi => [opCallIf true .carry, lo, hi]
  | .ctz lo hi => [opCallIf true .zero, lo, hi]
  | .cts lo hi => [opCallIf true .sign, lo, hi]
  | .ctp lo hi => [opCallIf true .parity, lo, hi]
  | .ret x => [opRet x]
  | .rfc => [opReturnIf false .carry]
  | .rfz => [opReturnIf false .zero]
  | .rfs => [opReturnIf false .sign]
  | .rfp => [opReturnIf false .parity]
  | .rtc => [opReturnIf true .carry]
  | .rtz => [opReturnIf true .zero]
  | .rts => [opReturnIf true .sign]
  | .rtp => [opReturnIf true .parity]
  | .rst_0 => [opRst 0#3]
  | .rst_1 => [opRst 1#3]
  | .rst_2 => [opRst 2#3]
  | .rst_3 => [opRst 3#3]
  | .rst_4 => [opRst 4#3]
  | .rst_5 => [opRst 5#3]
  | .rst_6 => [opRst 6#3]
  | .rst_7 => [opRst 7#3]
  | .inp_0 => [opIo 0#5]
  | .inp_1 => [opIo 1#5]
  | .inp_2 => [opIo 2#5]
  | .inp_3 => [opIo 3#5]
  | .inp_4 => [opIo 4#5]
  | .inp_5 => [opIo 5#5]
  | .inp_6 => [opIo 6#5]
  | .inp_7 => [opIo 7#5]
  | .out_8 => [opIo 8#5]
  | .out_9 => [opIo 9#5]
  | .out_10 => [opIo 10#5]
  | .out_11 => [opIo 11#5]
  | .out_12 => [opIo 12#5]
  | .out_13 => [opIo 13#5]
  | .out_14 => [opIo 14#5]
  | .out_15 => [opIo 15#5]
  | .out_16 => [opIo 16#5]
  | .out_17 => [opIo 17#5]
  | .out_18 => [opIo 18#5]
  | .out_19 => [opIo 19#5]
  | .out_20 => [opIo 20#5]
  | .out_21 => [opIo 21#5]
  | .out_22 => [opIo 22#5]
  | .out_23 => [opIo 23#5]
  | .out_24 => [opIo 24#5]
  | .out_25 => [opIo 25#5]
  | .out_26 => [opIo 26#5]
  | .out_27 => [opIo 27#5]
  | .out_28 => [opIo 28#5]
  | .out_29 => [opIo 29#5]
  | .out_30 => [opIo 30#5]
  | .out_31 => [opIo 31#5]
  | .hlt op => [op]

end Sys2Proof
end

