-- ==== Sys2Proof/Machine/Memory.lean ====
section
/-! DEFINITION. The environment's memory (20_memory R52): reading and writing one byte of a list of
(address, byte) pairs kept in ONE canonical form. R52 leaves it to the environment whether one array or several,
routed by the T2 tag, back instruction and data memory: DESIGN CHOICE, one array (log entry 21). -/

namespace Sys2Proof.Machine

/-- What an address the list does not name reads as. DESIGN CHOICE (log entry 1): the spec leaves the
contents of memory never written to the environment (93_implementation_defined U13); its vectors start
from "memory all 0x00 except the bytes listed" (95_test_vectors). -/
def unlistedByte : Byte := 0x00#8

/-- The byte listed at address `a`, else `unlistedByte`. -/
def Memory.readAt : Memory → Nat → Byte
  | [], _ => unlistedByte
  | (x, v) :: m, a => if x = a then v else Memory.readAt m a

/-- Put the cell `(a, b)` in front of `m`, or leave it out where it is what an unlisted address reads as. -/
def Memory.consCell (a : Nat) (b : Byte) (m : Memory) : Memory :=
  if b = unlistedByte then m else (a, b) :: m

/-- Make address `a` read `b`; a list in canonical form stays in it. -/
def Memory.writeAt : Memory → Nat → Byte → Memory
  | [], a, b => Memory.consCell a b []
  | (x, v) :: m, a, b =>
    if a < x then Memory.consCell a b ((x, v) :: m)
    else if a = x then Memory.consCell a b m
    else (x, v) :: Memory.writeAt m a b

/-- Read one byte (R60: the only width is one byte, at a 14-bit address). -/
def Memory.read (m : Memory) (a : Address) : Byte := m.readAt a.toNat

/-- Write one byte (R61). -/
def Memory.write (m : Memory) (a : Address) (b : Byte) : Memory := m.writeAt a.toNat b

/-- Canonical form above a bound: every address is at least `lo`, addresses rise strictly, lie below 2^14
(R52), and no cell holds `unlistedByte`. -/
def Memory.wfFrom : Nat → Memory → Bool
  | _, [] => true
  | lo, (x, v) :: m => decide (lo ≤ x) && decide (x < 2 ^ 14) && decide (v ≠ unlistedByte) && Memory.wfFrom (x + 1) m

/-- The canonical form holds. -/
def Memory.wf (m : Memory) : Bool := Memory.wfFrom 0 m

end Sys2Proof.Machine
end

