-- ==== Sys2Proof/Machine/Ops.lean ====
section
/-! DEFINITION. The named operations over the state: registers, the address stack, the bus transaction and
the five machine cycles (20_memory), instruction fetch, the interrupt sample, the unimplemented-opcode
exception, the STOPPED poll and reset. -/

namespace Sys2Proof.Machine

/-! ## Registers and the address stack -/

/-- `r[i]` (R21). -/
def RegFile.get (r : RegFile) : Reg → Byte
  | .a => r.a
  | .b => r.b
  | .c => r.c
  | .d => r.d
  | .e => r.e
  | .h => r.h
  | .l => r.l

/-- `r[i] <- v` (R21: every register is writable, none is hardwired). -/
def RegFile.set (r : RegFile) (i : Reg) (v : Byte) : RegFile :=
  match i with
  | .a => { r with a := v }
  | .b => { r with b := v }
  | .c => { r with c := v }
  | .d => { r with d := v }
  | .e => { r with e := v }
  | .h => { r with h := v }
  | .l => { r with l := v }

/-- Write a general register of the state. -/
def State.setReg (s : State) (i : Reg) (v : Byte) : State := { s with regs := s.regs.set i v }

/-- Write the flags. -/
def State.setFlags (s : State) (f : Flags) : State := { s with flags := f }

/-- Slot `k` of the address stack (R24). -/
def State.slot (s : State) (k : BitVec 3) : Slot := s.stack[k.toNat]'k.isLt

/-- Write slot `k` of the address stack with a 14-bit address; bits 15 and 14 of the container are 0 (R24). -/
def State.setSlot (s : State) (k : BitVec 3) (a : Address) : State :=
  { s with stack := s.stack.set k.toNat (a.zeroExtend 16) k.isLt }

/-- The program counter: the address in the current slot (R25). -/
def State.pc (s : State) : Address := (s.slot s.sp).extractLsb' 0 14

/-- `pc <- target`: write the current slot (R7, R25). -/
def State.setPc (s : State) (a : Address) : State := s.setSlot s.sp a

/-- `pc <- (pc + 1) mod 2^14` (R25). -/
def State.advancePc (s : State) : State := s.setPc (s.pc + 1)

/-- `Push(target)`: the index advances modulo 8 before the write (R26). -/
def State.push (s : State) (a : Address) : State := { s with sp := s.sp + 1 }.setPc a

/-- `Pop()`: the index retreats modulo 8, no slot changes (R26). -/
def State.pop (s : State) : State := { s with sp := s.sp - 1 }

/-! ## The bus transaction (R50) -/

/-- The reply of an environment whose script says nothing (log entry 2). -/
def Reply.quiet : Reply := ⟨none, false⟩

/-- What the environment does inside the next transaction. -/
def State.nextReply (s : State) : Reply := s.script.headD Reply.quiet

/-- One transaction: it is appended to the trace, the environment's reply is used up, and a request made in
it sets the latch (R9, R50, R232: a request when the latch is already 1 changes nothing). -/
def State.transact (s : State) (phase : BusState) (out : Byte) (inp : Byte) : State :=
  { s with
    interruptRequest := s.interruptRequest || s.nextReply.request
    script := s.script.tail
    trace := s.trace ++ [⟨phase, out, inp⟩] }

/-- `Bus(state, out) -> in`: the script's answer, else `dflt` (R50, R53, log entry 2). -/
def State.busRead (s : State) (phase : BusState) (out dflt : Byte) : Byte × State :=
  (s.nextReply.answer.getD dflt, s.transact phase out (s.nextReply.answer.getD dflt))

/-- `Bus(state, out)` with the answer ignored (R50, R51): a free value where the script gives none (log entry 4). -/
def State.bus (s : State) (phase : BusState) (out : Byte) : State :=
  (s.busRead phase out (Config.freeAnswer s.trace.length)).2

/-- A visibility transaction T4 or T5 (R63), performed where `EMIT_T4T5` says so. -/
def State.visible (s : State) (phase : BusState) (out : Byte) : State :=
  if Config.emitT4T5 then s.bus phase out else s

/-! ## Machine cycles (20_memory R57 to R62) -/

/-- The byte driven at T1: the low eight bits of the address (R51). -/
def addrLow (a : Address) : Byte := a.extractLsb' 0 8

/-- The high six bits of an address (R56). -/
def addrHigh (a : Address) : BitVec 6 := a.extractLsb' 8 6

/-- The byte driven at T2: `{tag[1:0], high6[5:0]}` (R56). -/
def t2Byte (tag : BitVec 2) (high : BitVec 6) : Byte := tag ++ high

/-- `FetchOpcode()` (R58, R54): in a forced cycle the fetch begins with T1I, the environment supplies the
opcode (a free value where its script gives none) and `pc` stays; else memory answers and `pc` advances. The
memory is one array for every cycle type (log entry 21). -/
def State.fetchOpcode (s : State) : Byte × State :=
  let a := s.pc
  let s1 := s.bus (if s.interruptCycle then .t1I else .t1) (addrLow a)
  let s2 := s1.bus .t2 (t2Byte Config.tagPCI (addrHigh a))
  let r := s2.busRead .t3 Config.t3ReadOut
    (if s.interruptCycle then Config.freeOpcode s2.trace.length else s.mem.read a)
  (r.1, if s.interruptCycle then r.2 else r.2.setPc (a + 1))

/-- `ReadImm()` (R59): always begun with T1, always advancing `pc`, also in a forced cycle (R108). A PCR read,
answered by the same array as opcode fetches (log entry 21). -/
def State.readImm (s : State) : Byte × State :=
  let a := s.pc
  let s1 := s.bus .t1 (addrLow a)
  let s2 := s1.bus .t2 (t2Byte Config.immTag (addrHigh a))
  let r := s2.busRead .t3 Config.t3ReadOut (s.mem.read a)
  (r.1, r.2.setPc (a + 1))

/-- The address of the memory operand, `{H[5:0], L}` (R23). -/
def State.memAddr (s : State) : Address := s.regs.h.extractLsb' 0 6 ++ s.regs.l

/-- `MemRead({H[5:0], L}, 1)` (R60). A PCR read, answered by the same array as opcode fetches (log entry 21). -/
def State.memRead (s : State) : Byte × State :=
  let s1 := s.bus .t1 s.regs.l
  let s2 := s1.bus .t2 (t2Byte Config.tagPCR (s.regs.h.extractLsb' 0 6))
  s2.busRead .t3 Config.t3ReadOut (s.mem.read s.memAddr)

/-- `MemWrite({H[5:0], L}, 1, v)` (R61): the data byte is driven at T3 and the environment's memory takes it
(R74, log entry 17), the same array that answers fetches and reads (log entry 21). -/
def State.memWrite (s : State) (v : Byte) : State :=
  let s1 := s.bus .t1 s.regs.l
  let s2 := s1.bus .t2 (t2Byte Config.tagPCW (s.regs.h.extractLsb' 0 6))
  let s3 := s2.bus .t3 v
  { s3 with mem := s.mem.write s.memAddr v }

/-- The beginning of `IoCycle(op)` (R62): T1 carries A, T2 the command tag and opcode bits 5 to 0. -/
def State.ioCommand (s : State) (op6 : BitVec 6) : State :=
  (s.bus .t1 s.regs.a).bus .t2 (t2Byte Config.tagPCC op6)

/-! ## Instruction fetch (R58, R59, R96) -/

/-- The opcode fetch and, by the opcode's length, the one or two `ReadImm()` that follow it; the instruction
they spell. Every two- and three-byte instruction's rule begins with these reads (log entry 8). -/
def State.fetchInstr (s : State) : Instr × State :=
  let f := s.fetchOpcode
  match instrLength f.1 with
  | 1 => (instrOf f.1 0 0, f.2)
  | 2 =>
    let i := f.2.readImm
    (instrOf f.1 i.1 0, i.2)
  | _ =>
    let lo := f.2.readImm
    let hi := lo.2.readImm
    (instrOf f.1 lo.1 hi.1, hi.2)

/-! ## Events: interrupt, unimplemented opcode, STOPPED, reset -/

/-- `RequestInterrupt()`: the latch becomes 1, nothing else changes (R232). -/
def State.requestInterrupt (s : State) : State := { s with interruptRequest := true }

/-- TAKING THE INTERRUPT (R100, R101, R236): the latch is sampled before the step's first transaction; if
it is 1 the cycle is a forced one and the latch is cleared. Nothing is saved. -/
def State.sampleInterrupt (s : State) : State :=
  if s.interruptRequest then { s with interruptCycle := true, interruptRequest := false } else s

/-- The end of a step: `interrupt_cycle <- 0` (R104). -/
def State.endCycle (s : State) : State := { s with interruptCycle := false }

/-- TAKING THE EXCEPTION `UnimplementedOpcode(op)` (R172, R231): the fault latch records the opcode; no
other state changes, nothing is pushed and control goes nowhere. Only reset leaves this (R248). -/
def State.raiseUnimplemented (s : State) (op : Byte) : State :=
  { s with fault := .unimplementedOpcode op }

/-- `StoppedPoll()` (R223): one STOPPED transaction, then RUNNING if the latch is 1; the latch is kept. -/
def State.stoppedPoll (s : State) : State :=
  let s1 := s.bus .stopped Config.stoppedOut
  if s1.interruptRequest then { s1 with run := .running } else s1

/-- `Reset()` (R260, R261): the whole state of the core is replaced, then one STOPPED poll; the environment's
memory, script, schedule and the trace are not the core's and stay. -/
def State.resetCore (s : State) : State :=
  State.stoppedPoll
    { s with
      regs := ⟨0, 0, 0, 0, 0, 0, 0⟩
      flags := ⟨false, false, false, false⟩
      stack := Vector.replicate 8 0
      sp := 0
      interruptRequest := false
      interruptCycle := false
      run := .stopped
      fault := .none }

end Sys2Proof.Machine
end

