-- ==== Sys2Proof/Machine/Operands.lean ====
section
/-! DEFINITION. The operand forms (40_fetch_decode R105, 30_encoding R89, R90, R91): operand access by
selector, the 14-bit target of two address bytes, the restart vector, the opcode bits of a port. -/

namespace Sys2Proof.Machine

/-- `ReadSel`: a register, no transaction, or (`none`, selector 7) the memory operand (R105, R22). -/
def State.readSel (s : State) : Option Reg → Byte × State
  | some r => (s.regs.get r, s)
  | none => s.memRead

/-- `WriteSel`: a register, no transaction, or (`none`, selector 7) the memory operand (R105, R22). -/
def State.writeSel (s : State) (d : Option Reg) (v : Byte) : State :=
  match d with
  | some r => s.setReg r v
  | none => s.memWrite v

/-- `target14 = {addr_hi[5:0], addr_lo[7:0]}`: the high byte's top two bits are discarded (R89, R190). -/
def target14 (lo hi : Byte) : Address := hi.extractLsb' 0 6 ++ lo

/-- `vector14 = zext_14(aaa) << 3` (R90, R203). -/
def restartVector (aaa : BitVec 3) : Address := aaa.zeroExtend 14 <<< Config.rstShift

/-- Opcode bits 5 to 0 of the I/O instruction for port `p`, `RRMMM1` (R91). -/
def portBits (p : BitVec 5) : BitVec 6 := p ++ 0b1#1

end Sys2Proof.Machine
end

