-- ==== Sys2Proof/Machine/Alu.lean ====
section
/-! DEFINITION. The arithmetic/logic instructions (42_alu). -/

namespace Sys2Proof.Machine

/-- An ALU operation with the second operand `b` in hand: T4 shows `b`; the flags and, but for compare, A are
written from the nine-bit result; T5 shows the eight-bit result (R154, R155, R156). Carry is read as it was
before the instruction (R30). -/
def aluWith (op : AluOp) (b : Byte) (s : State) : State :=
  let w := alu op s.regs.a b s.flags.c
  let s1 := (s.visible .t4 b).setFlags (s.flags.afterAlu op w)
  let s2 := if aluWritesA op then s1.setReg .a (aluResult w) else s1
  s2.visible .t5 (aluResult w)

/-- The register and memory forms: the second operand by selector (R105, R156). -/
def aluFrom (op : AluOp) (src : Option Reg) (s : State) : State :=
  aluWith op (s.readSel src).1 (s.readSel src).2

/-- `ADA` (0x80), R130. -/
def execAda (s : State) : Result := .next (aluFrom .add (some .a) s)

/-- `ADB` (0x81), R130. -/
def execAdb (s : State) : Result := .next (aluFrom .add (some .b) s)

/-- `ADC` (0x82), R130. -/
def execAdc (s : State) : Result := .next (aluFrom .add (some .c) s)

/-- `ADD` (0x83), R130. -/
def execAdd (s : State) : Result := .next (aluFrom .add (some .d) s)

/-- `ADE` (0x84), R130. -/
def execAde (s : State) : Result := .next (aluFrom .add (some .e) s)

/-- `ADH` (0x85), R130. -/
def execAdh (s : State) : Result := .next (aluFrom .add (some .h) s)

/-- `ADL` (0x86), R130. -/
def execAdl (s : State) : Result := .next (aluFrom .add (some .l) s)

/-- `ADM` (0x87), R131. -/
def execAdm (s : State) : Result := .next (aluFrom .add none s)

/-- `ADI` (0x04), R132. -/
def execAdi (imm : Byte) (s : State) : Result := .next (aluWith .add imm s)

/-- `ACA` (0x88), R133. -/
def execAca (s : State) : Result := .next (aluFrom .addCarry (some .a) s)

/-- `ACB` (0x89), R133. -/
def execAcb (s : State) : Result := .next (aluFrom .addCarry (some .b) s)

/-- `ACC` (0x8A), R133. -/
def execAcc (s : State) : Result := .next (aluFrom .addCarry (some .c) s)

/-- `ACD` (0x8B), R133. -/
def execAcd (s : State) : Result := .next (aluFrom .addCarry (some .d) s)

/-- `ACE` (0x8C), R133. -/
def execAce (s : State) : Result := .next (aluFrom .addCarry (some .e) s)

/-- `ACH` (0x8D), R133. -/
def execAch (s : State) : Result := .next (aluFrom .addCarry (some .h) s)

/-- `ACL` (0x8E), R133. -/
def execAcl (s : State) : Result := .next (aluFrom .addCarry (some .l) s)

/-- `ACM` (0x8F), R134. -/
def execAcm (s : State) : Result := .next (aluFrom .addCarry none s)

/-- `ACI` (0x0C), R135. -/
def execAci (imm : Byte) (s : State) : Result := .next (aluWith .addCarry imm s)

/-- `SUA` (0x90), R136. -/
def execSua (s : State) : Result := .next (aluFrom .sub (some .a) s)

/-- `SUB` (0x91), R136. -/
def execSub (s : State) : Result := .next (aluFrom .sub (some .b) s)

/-- `SUC` (0x92), R136. -/
def execSuc (s : State) : Result := .next (aluFrom .sub (some .c) s)

/-- `SUD` (0x93), R136. -/
def execSud (s : State) : Result := .next (aluFrom .sub (some .d) s)

/-- `SUE` (0x94), R136. -/
def execSue (s : State) : Result := .next (aluFrom .sub (some .e) s)

/-- `SUH` (0x95), R136. -/
def execSuh (s : State) : Result := .next (aluFrom .sub (some .h) s)

/-- `SUL` (0x96), R136. -/
def execSul (s : State) : Result := .next (aluFrom .sub (some .l) s)

/-- `SUM` (0x97), R137. -/
def execSum (s : State) : Result := .next (aluFrom .sub none s)

/-- `SUI` (0x14), R138. -/
def execSui (imm : Byte) (s : State) : Result := .next (aluWith .sub imm s)

/-- `SBA` (0x98), R139. -/
def execSba (s : State) : Result := .next (aluFrom .subBorrow (some .a) s)

/-- `SBB` (0x99), R139. -/
def execSbb (s : State) : Result := .next (aluFrom .subBorrow (some .b) s)

/-- `SBC` (0x9A), R139. -/
def execSbc (s : State) : Result := .next (aluFrom .subBorrow (some .c) s)

/-- `SBD` (0x9B), R139. -/
def execSbd (s : State) : Result := .next (aluFrom .subBorrow (some .d) s)

/-- `SBE` (0x9C), R139. -/
def execSbe (s : State) : Result := .next (aluFrom .subBorrow (some .e) s)

/-- `SBH` (0x9D), R139. -/
def execSbh (s : State) : Result := .next (aluFrom .subBorrow (some .h) s)

/-- `SBL` (0x9E), R139. -/
def execSbl (s : State) : Result := .next (aluFrom .subBorrow (some .l) s)

/-- `SBM` (0x9F), R140. -/
def execSbm (s : State) : Result := .next (aluFrom .subBorrow none s)

/-- `SBI` (0x1C), R141. -/
def execSbi (imm : Byte) (s : State) : Result := .next (aluWith .subBorrow imm s)

/-- `NDA` (0xA0), R142. -/
def execNda (s : State) : Result := .next (aluFrom .and (some .a) s)

/-- `NDB` (0xA1), R142. -/
def execNdb (s : State) : Result := .next (aluFrom .and (some .b) s)

/-- `NDC` (0xA2), R142. -/
def execNdc (s : State) : Result := .next (aluFrom .and (some .c) s)

/-- `NDD` (0xA3), R142. -/
def execNdd (s : State) : Result := .next (aluFrom .and (some .d) s)

/-- `NDE` (0xA4), R142. -/
def execNde (s : State) : Result := .next (aluFrom .and (some .e) s)

/-- `NDH` (0xA5), R142. -/
def execNdh (s : State) : Result := .next (aluFrom .and (some .h) s)

/-- `NDL` (0xA6), R142. -/
def execNdl (s : State) : Result := .next (aluFrom .and (some .l) s)

/-- `NDM` (0xA7), R143. -/
def execNdm (s : State) : Result := .next (aluFrom .and none s)

/-- `NDI` (0x24), R144. -/
def execNdi (imm : Byte) (s : State) : Result := .next (aluWith .and imm s)

/-- `XRA` (0xA8), R145. -/
def execXra (s : State) : Result := .next (aluFrom .xor (some .a) s)

/-- `XRB` (0xA9), R145. -/
def execXrb (s : State) : Result := .next (aluFrom .xor (some .b) s)

/-- `XRC` (0xAA), R145. -/
def execXrc (s : State) : Result := .next (aluFrom .xor (some .c) s)

/-- `XRD` (0xAB), R145. -/
def execXrd (s : State) : Result := .next (aluFrom .xor (some .d) s)

/-- `XRE` (0xAC), R145. -/
def execXre (s : State) : Result := .next (aluFrom .xor (some .e) s)

/-- `XRH` (0xAD), R145. -/
def execXrh (s : State) : Result := .next (aluFrom .xor (some .h) s)

/-- `XRL` (0xAE), R145. -/
def execXrl (s : State) : Result := .next (aluFrom .xor (some .l) s)

/-- `XRM` (0xAF), R146. -/
def execXrm (s : State) : Result := .next (aluFrom .xor none s)

/-- `XRI` (0x2C), R147. -/
def execXri (imm : Byte) (s : State) : Result := .next (aluWith .xor imm s)

/-- `ORA` (0xB0), R148. -/
def execOra (s : State) : Result := .next (aluFrom .or (some .a) s)

/-- `ORB` (0xB1), R148. -/
def execOrb (s : State) : Result := .next (aluFrom .or (some .b) s)

/-- `ORC` (0xB2), R148. -/
def execOrc (s : State) : Result := .next (aluFrom .or (some .c) s)

/-- `ORD` (0xB3), R148. -/
def execOrd (s : State) : Result := .next (aluFrom .or (some .d) s)

/-- `ORE` (0xB4), R148. -/
def execOre (s : State) : Result := .next (aluFrom .or (some .e) s)

/-- `ORH` (0xB5), R148. -/
def execOrh (s : State) : Result := .next (aluFrom .or (some .h) s)

/-- `ORL` (0xB6), R148. -/
def execOrl (s : State) : Result := .next (aluFrom .or (some .l) s)

/-- `ORM` (0xB7), R149. -/
def execOrm (s : State) : Result := .next (aluFrom .or none s)

/-- `ORI` (0x34), R150. -/
def execOri (imm : Byte) (s : State) : Result := .next (aluWith .or imm s)

/-- `CPA` (0xB8), R151. -/
def execCpa (s : State) : Result := .next (aluFrom .compare (some .a) s)

/-- `CPB` (0xB9), R151. -/
def execCpb (s : State) : Result := .next (aluFrom .compare (some .b) s)

/-- `CPC` (0xBA), R151. -/
def execCpc (s : State) : Result := .next (aluFrom .compare (some .c) s)

/-- `CPD` (0xBB), R151. -/
def execCpd (s : State) : Result := .next (aluFrom .compare (some .d) s)

/-- `CPE` (0xBC), R151. -/
def execCpe (s : State) : Result := .next (aluFrom .compare (some .e) s)

/-- `CPH` (0xBD), R151. -/
def execCph (s : State) : Result := .next (aluFrom .compare (some .h) s)

/-- `CPL` (0xBE), R151. -/
def execCpl (s : State) : Result := .next (aluFrom .compare (some .l) s)

/-- `CPM` (0xBF), R152. -/
def execCpm (s : State) : Result := .next (aluFrom .compare none s)

/-- `CPI` (0x3C), R153. -/
def execCpi (imm : Byte) (s : State) : Result := .next (aluWith .compare imm s)

end Sys2Proof.Machine
end

