-- ==== Sys2Proof/Machine/Halt.lean ====
section
/-! DEFINITION. The halt instruction (48_halt). Its three opcode bytes behave identically (R221). -/

namespace Sys2Proof.Machine

/-- `HLT`: STOPPED, then one STOPPED poll, which may wake the core at once (R220, R223). -/
def halt (s : State) : State := State.stoppedPoll { s with run := .stopped }

/-- `HLT` (0x00, 0x01, 0xFF), R220. -/
def execHlt (_op : Byte) (s : State) : Result := .next (halt s)

end Sys2Proof.Machine
end

