-- ==== Sys2Proof/Machine/IncDec.lean ====
section
/-! DEFINITION. Increment, decrement and the two unimplemented opcodes (43_incdec). -/

namespace Sys2Proof.Machine

/-- A register replaced by `res`: T4 shows the old value, zero, sign and parity follow `res`, carry stays, T5
shows `res` (R170, R171). -/
def replaceReg (dst : Reg) (res : Byte) (s : State) : State :=
  (((s.visible .t4 (s.regs.get dst)).setReg dst res).setFlags (s.flags.zsp res)).visible .t5 res

/-- `IN r` (R170). -/
def increment (dst : Reg) (s : State) : State := replaceReg dst (s.regs.get dst + 1) s

/-- `DC r` (R171). -/
def decrement (dst : Reg) (s : State) : State := replaceReg dst (s.regs.get dst - 1) s

/-- Opcodes 0x38 and 0x39: the exception `UnimplementedOpcode` and nothing else (R172). -/
def unimplemented (op : Byte) (s : State) : State := s.raiseUnimplemented op

/-- `INB` (0x08), R170. -/
def execInb (s : State) : Result := .next (increment .b s)

/-- `INC` (0x10), R170. -/
def execInc (s : State) : Result := .next (increment .c s)

/-- `IND` (0x18), R170. -/
def execInd (s : State) : Result := .next (increment .d s)

/-- `INE` (0x20), R170. -/
def execIne (s : State) : Result := .next (increment .e s)

/-- `INH` (0x28), R170. -/
def execInh (s : State) : Result := .next (increment .h s)

/-- `INL` (0x30), R170. -/
def execInl (s : State) : Result := .next (increment .l s)

/-- `DCB` (0x09), R171. -/
def execDcb (s : State) : Result := .next (decrement .b s)

/-- `DCC` (0x11), R171. -/
def execDcc (s : State) : Result := .next (decrement .c s)

/-- `DCD` (0x19), R171. -/
def execDcd (s : State) : Result := .next (decrement .d s)

/-- `DCE` (0x21), R171. -/
def execDce (s : State) : Result := .next (decrement .e s)

/-- `DCH` (0x29), R171. -/
def execDch (s : State) : Result := .next (decrement .h s)

/-- `DCL` (0x31), R171. -/
def execDcl (s : State) : Result := .next (decrement .l s)

/-- `UNIMPL_INM` (0x38), R172. -/
def execUnimpl_inm (s : State) : Result := .next (unimplemented 0x38#8 s)

/-- `UNIMPL_DCM` (0x39), R172. -/
def execUnimpl_dcm (s : State) : Result := .next (unimplemented 0x39#8 s)

end Sys2Proof.Machine
end

