-- ==== Sys2Proof/Machine/Io.lean ====
section
/-! DEFINITION. The input and output instructions (47_io). -/

namespace Sys2Proof.Machine

/-- `INP p`: a command cycle, T3 reads the port (a free value where the environment's script gives no answer,
log entry 3), T4 shows the flag byte, A takes the byte, T5 shows it (R210, R212). -/
def input (p : BitVec 5) (s : State) : State :=
  let s1 := s.ioCommand (portBits p)
  let r := s1.busRead .t3 Config.t3ReadOut (Config.freeInput s1.trace.length)
  ((r.2.visible .t4 s.flags.byte).setReg .a r.1).visible .t5 r.1

/-- `OUT p`: a command cycle ended by WAIT, which drives A (R211). -/
def output (p : BitVec 5) (s : State) : State :=
  (s.ioCommand (portBits p)).bus .wait s.regs.a

/-- `INP_0` (0x41), R210. -/
def execInp_0 (s : State) : Result := .next (input 0#5 s)

/-- `INP_1` (0x43), R210. -/
def execInp_1 (s : State) : Result := .next (input 1#5 s)

/-- `INP_2` (0x45), R210. -/
def execInp_2 (s : State) : Result := .next (input 2#5 s)

/-- `INP_3` (0x47), R210. -/
def execInp_3 (s : State) : Result := .next (input 3#5 s)

/-- `INP_4` (0x49), R210. -/
def execInp_4 (s : State) : Result := .next (input 4#5 s)

/-- `INP_5` (0x4B), R210. -/
def execInp_5 (s : State) : Result := .next (input 5#5 s)

/-- `INP_6` (0x4D), R210. -/
def execInp_6 (s : State) : Result := .next (input 6#5 s)

/-- `INP_7` (0x4F), R210. -/
def execInp_7 (s : State) : Result := .next (input 7#5 s)

/-- `OUT_8` (0x51), R211. -/
def execOut_8 (s : State) : Result := .next (output 8#5 s)

/-- `OUT_9` (0x53), R211. -/
def execOut_9 (s : State) : Result := .next (output 9#5 s)

/-- `OUT_10` (0x55), R211. -/
def execOut_10 (s : State) : Result := .next (output 10#5 s)

/-- `OUT_11` (0x57), R211. -/
def execOut_11 (s : State) : Result := .next (output 11#5 s)

/-- `OUT_12` (0x59), R211. -/
def execOut_12 (s : State) : Result := .next (output 12#5 s)

/-- `OUT_13` (0x5B), R211. -/
def execOut_13 (s : State) : Result := .next (output 13#5 s)

/-- `OUT_14` (0x5D), R211. -/
def execOut_14 (s : State) : Result := .next (output 14#5 s)

/-- `OUT_15` (0x5F), R211. -/
def execOut_15 (s : State) : Result := .next (output 15#5 s)

/-- `OUT_16` (0x61), R211. -/
def execOut_16 (s : State) : Result := .next (output 16#5 s)

/-- `OUT_17` (0x63), R211. -/
def execOut_17 (s : State) : Result := .next (output 17#5 s)

/-- `OUT_18` (0x65), R211. -/
def execOut_18 (s : State) : Result := .next (output 18#5 s)

/-- `OUT_19` (0x67), R211. -/
def execOut_19 (s : State) : Result := .next (output 19#5 s)

/-- `OUT_20` (0x69), R211. -/
def execOut_20 (s : State) : Result := .next (output 20#5 s)

/-- `OUT_21` (0x6B), R211. -/
def execOut_21 (s : State) : Result := .next (output 21#5 s)

/-- `OUT_22` (0x6D), R211. -/
def execOut_22 (s : State) : Result := .next (output 22#5 s)

/-- `OUT_23` (0x6F), R211. -/
def execOut_23 (s : State) : Result := .next (output 23#5 s)

/-- `OUT_24` (0x71), R211. -/
def execOut_24 (s : State) : Result := .next (output 24#5 s)

/-- `OUT_25` (0x73), R211. -/
def execOut_25 (s : State) : Result := .next (output 25#5 s)

/-- `OUT_26` (0x75), R211. -/
def execOut_26 (s : State) : Result := .next (output 26#5 s)

/-- `OUT_27` (0x77), R211. -/
def execOut_27 (s : State) : Result := .next (output 27#5 s)

/-- `OUT_28` (0x79), R211. -/
def execOut_28 (s : State) : Result := .next (output 28#5 s)

/-- `OUT_29` (0x7B), R211. -/
def execOut_29 (s : State) : Result := .next (output 29#5 s)

/-- `OUT_30` (0x7D), R211. -/
def execOut_30 (s : State) : Result := .next (output 30#5 s)

/-- `OUT_31` (0x7F), R211. -/
def execOut_31 (s : State) : Result := .next (output 31#5 s)

end Sys2Proof.Machine
end

