-- ==== Sys2Proof/Machine/JumpCall.lean ====
section
/-! DEFINITION. The jump and call instructions (45_jump_call), after their two address bytes have been fetched
(R190): `pc` is then the address of the next instruction. The ignored opcode bits `x` have no effect (R94). -/

namespace Sys2Proof.Machine

/-- T4 and T5 of a transfer to `t`: the high six bits, then the low eight (R63). -/
def State.showTarget (s : State) (t : Address) : State :=
  (s.visible .t4 ((addrHigh t).zeroExtend 8)).visible .t5 (addrLow t)

/-- A taken jump (R191). -/
def jumpTo (t : Address) (s : State) : State := (s.showTarget t).setPc t

/-- A taken call: the slot left behind keeps the return address (R194, R26). -/
def callTo (t : Address) (s : State) : State := (s.showTarget t).push t

/-- A conditional jump: not taken it does nothing further (R192, R193). -/
def jumpIf (sense : Bool) (cc : Condition) (t : Address) (s : State) : State :=
  if s.flags.cond sense cc then jumpTo t s else s

/-- A conditional call: not taken it does nothing further (R195, R196). -/
def callIf (sense : Bool) (cc : Condition) (t : Address) (s : State) : State :=
  if s.flags.cond sense cc then callTo t s else s

/-- `JMP` (0x44, 0x4C, 0x54, 0x5C, 0x64, 0x6C, 0x74, 0x7C), R191. -/
def execJmp (_x : BitVec 3) (lo : Byte) (hi : Byte) (s : State) : Result := .next (jumpTo (target14 lo hi) s)

/-- `JFC` (0x40), R192. -/
def execJfc (lo : Byte) (hi : Byte) (s : State) : Result := .next (jumpIf false .carry (target14 lo hi) s)

/-- `JFZ` (0x48), R192. -/
def execJfz (lo : Byte) (hi : Byte) (s : State) : Result := .next (jumpIf false .zero (target14 lo hi) s)

/-- `JFS` (0x50), R192. -/
def execJfs (lo : Byte) (hi : Byte) (s : State) : Result := .next (jumpIf false .sign (target14 lo hi) s)

/-- `JFP` (0x58), R192. -/
def execJfp (lo : Byte) (hi : Byte) (s : State) : Result := .next (jumpIf false .parity (target14 lo hi) s)

/-- `JTC` (0x60), R193. -/
def execJtc (lo : Byte) (hi : Byte) (s : State) : Result := .next (jumpIf true .carry (target14 lo hi) s)

/-- `JTZ` (0x68), R193. -/
def execJtz (lo : Byte) (hi : Byte) (s : State) : Result := .next (jumpIf true .zero (target14 lo hi) s)

/-- `JTS` (0x70), R193. -/
def execJts (lo : Byte) (hi : Byte) (s : State) : Result := .next (jumpIf true .sign (target14 lo hi) s)

/-- `JTP` (0x78), R193. -/
def execJtp (lo : Byte) (hi : Byte) (s : State) : Result := .next (jumpIf true .parity (target14 lo hi) s)

/-- `CAL` (0x46, 0x4E, 0x56, 0x5E, 0x66, 0x6E, 0x76, 0x7E), R194. -/
def execCal (_x : BitVec 3) (lo : Byte) (hi : Byte) (s : State) : Result := .next (callTo (target14 lo hi) s)

/-- `CFC` (0x42), R195. -/
def execCfc (lo : Byte) (hi : Byte) (s : State) : Result := .next (callIf false .carry (target14 lo hi) s)

/-- `CFZ` (0x4A), R195. -/
def execCfz (lo : Byte) (hi : Byte) (s : State) : Result := .next (callIf false .zero (target14 lo hi) s)

/-- `CFS` (0x52), R195. -/
def execCfs (lo : Byte) (hi : Byte) (s : State) : Result := .next (callIf false .sign (target14 lo hi) s)

/-- `CFP` (0x5A), R195. -/
def execCfp (lo : Byte) (hi : Byte) (s : State) : Result := .next (callIf false .parity (target14 lo hi) s)

/-- `CTC` (0x62), R196. -/
def execCtc (lo : Byte) (hi : Byte) (s : State) : Result := .next (callIf true .carry (target14 lo hi) s)

/-- `CTZ` (0x6A), R196. -/
def execCtz (lo : Byte) (hi : Byte) (s : State) : Result := .next (callIf true .zero (target14 lo hi) s)

/-- `CTS` (0x72), R196. -/
def execCts (lo : Byte) (hi : Byte) (s : State) : Result := .next (callIf true .sign (target14 lo hi) s)

/-- `CTP` (0x7A), R196. -/
def execCtp (lo : Byte) (hi : Byte) (s : State) : Result := .next (callIf true .parity (target14 lo hi) s)

end Sys2Proof.Machine
end

