-- ==== Sys2Proof/Machine/Load.lean ====
section
/-! DEFINITION. The load instructions (41_load). No load writes a flag (R125). -/

namespace Sys2Proof.Machine

/-- `L d s` and `L d M`: the source, a register or the memory byte, is read, shown at T4 and T5, and written
to `dst` (R120, R121). The address of `L H M` and `L L M` is formed from the old H and L (R105). -/
def loadReg (dst : Reg) (src : Option Reg) (s : State) : State :=
  let r := s.readSel src
  ((r.2.visible .t4 r.1).visible .t5 r.1).writeSel (some dst) r.1

/-- `LM s`: the register is shown at T4 and stored at the memory operand (R122). -/
def storeReg (r : Reg) (s : State) : State :=
  (s.visible .t4 (s.regs.get r)).writeSel none (s.regs.get r)

/-- `L d I`, after its operand byte has been fetched: it is shown at T4 and T5 and written to `dst` (R123). -/
def loadImm (dst : Reg) (imm : Byte) (s : State) : State :=
  ((s.visible .t4 imm).visible .t5 imm).writeSel (some dst) imm

/-- `LMI`, after its operand byte has been fetched: it is stored at the memory operand (R124). -/
def storeImm (imm : Byte) (s : State) : State := s.writeSel none imm

/-- `LAA` (0xC0), R120. -/
def execLaa (s : State) : Result := .next (loadReg .a (some .a) s)

/-- `LAB` (0xC1), R120. -/
def execLab (s : State) : Result := .next (loadReg .a (some .b) s)

/-- `LAC` (0xC2), R120. -/
def execLac (s : State) : Result := .next (loadReg .a (some .c) s)

/-- `LAD` (0xC3), R120. -/
def execLad (s : State) : Result := .next (loadReg .a (some .d) s)

/-- `LAE` (0xC4), R120. -/
def execLae (s : State) : Result := .next (loadReg .a (some .e) s)

/-- `LAH` (0xC5), R120. -/
def execLah (s : State) : Result := .next (loadReg .a (some .h) s)

/-- `LAL` (0xC6), R120. -/
def execLal (s : State) : Result := .next (loadReg .a (some .l) s)

/-- `LBA` (0xC8), R120. -/
def execLba (s : State) : Result := .next (loadReg .b (some .a) s)

/-- `LBB` (0xC9), R120. -/
def execLbb (s : State) : Result := .next (loadReg .b (some .b) s)

/-- `LBC` (0xCA), R120. -/
def execLbc (s : State) : Result := .next (loadReg .b (some .c) s)

/-- `LBD` (0xCB), R120. -/
def execLbd (s : State) : Result := .next (loadReg .b (some .d) s)

/-- `LBE` (0xCC), R120. -/
def execLbe (s : State) : Result := .next (loadReg .b (some .e) s)

/-- `LBH` (0xCD), R120. -/
def execLbh (s : State) : Result := .next (loadReg .b (some .h) s)

/-- `LBL` (0xCE), R120. -/
def execLbl (s : State) : Result := .next (loadReg .b (some .l) s)

/-- `LCA` (0xD0), R120. -/
def execLca (s : State) : Result := .next (loadReg .c (some .a) s)

/-- `LCB` (0xD1), R120. -/
def execLcb (s : State) : Result := .next (loadReg .c (some .b) s)

/-- `LCC` (0xD2), R120. -/
def execLcc (s : State) : Result := .next (loadReg .c (some .c) s)

/-- `LCD` (0xD3), R120. -/
def execLcd (s : State) : Result := .next (loadReg .c (some .d) s)

/-- `LCE` (0xD4), R120. -/
def execLce (s : State) : Result := .next (loadReg .c (some .e) s)

/-- `LCH` (0xD5), R120. -/
def execLch (s : State) : Result := .next (loadReg .c (some .h) s)

/-- `LCL` (0xD6), R120. -/
def execLcl (s : State) : Result := .next (loadReg .c (some .l) s)

/-- `LDA` (0xD8), R120. -/
def execLda (s : State) : Result := .next (loadReg .d (some .a) s)

/-- `LDB` (0xD9), R120. -/
def execLdb (s : State) : Result := .next (loadReg .d (some .b) s)

/-- `LDC` (0xDA), R120. -/
def execLdc (s : State) : Result := .next (loadReg .d (some .c) s)

/-- `LDD` (0xDB), R120. -/
def execLdd (s : State) : Result := .next (loadReg .d (some .d) s)

/-- `LDE` (0xDC), R120. -/
def execLde (s : State) : Result := .next (loadReg .d (some .e) s)

/-- `LDH` (0xDD), R120. -/
def execLdh (s : State) : Result := .next (loadReg .d (some .h) s)

/-- `LDL` (0xDE), R120. -/
def execLdl (s : State) : Result := .next (loadReg .d (some .l) s)

/-- `LEA` (0xE0), R120. -/
def execLea (s : State) : Result := .next (loadReg .e (some .a) s)

/-- `LEB` (0xE1), R120. -/
def execLeb (s : State) : Result := .next (loadReg .e (some .b) s)

/-- `LEC` (0xE2), R120. -/
def execLec (s : State) : Result := .next (loadReg .e (some .c) s)

/-- `LED` (0xE3), R120. -/
def execLed (s : State) : Result := .next (loadReg .e (some .d) s)

/-- `LEE` (0xE4), R120. -/
def execLee (s : State) : Result := .next (loadReg .e (some .e) s)

/-- `LEH` (0xE5), R120. -/
def execLeh (s : State) : Result := .next (loadReg .e (some .h) s)

/-- `LEL` (0xE6), R120. -/
def execLel (s : State) : Result := .next (loadReg .e (some .l) s)

/-- `LHA` (0xE8), R120. -/
def execLha (s : State) : Result := .next (loadReg .h (some .a) s)

/-- `LHB` (0xE9), R120. -/
def execLhb (s : State) : Result := .next (loadReg .h (some .b) s)

/-- `LHC` (0xEA), R120. -/
def execLhc (s : State) : Result := .next (loadReg .h (some .c) s)

/-- `LHD` (0xEB), R120. -/
def execLhd (s : State) : Result := .next (loadReg .h (some .d) s)

/-- `LHE` (0xEC), R120. -/
def execLhe (s : State) : Result := .next (loadReg .h (some .e) s)

/-- `LHH` (0xED), R120. -/
def execLhh (s : State) : Result := .next (loadReg .h (some .h) s)

/-- `LHL` (0xEE), R120. -/
def execLhl (s : State) : Result := .next (loadReg .h (some .l) s)

/-- `LLA` (0xF0), R120. -/
def execLla (s : State) : Result := .next (loadReg .l (some .a) s)

/-- `LLB` (0xF1), R120. -/
def execLlb (s : State) : Result := .next (loadReg .l (some .b) s)

/-- `LLC` (0xF2), R120. -/
def execLlc (s : State) : Result := .next (loadReg .l (some .c) s)

/-- `LLD` (0xF3), R120. -/
def execLld (s : State) : Result := .next (loadReg .l (some .d) s)

/-- `LLE` (0xF4), R120. -/
def execLle (s : State) : Result := .next (loadReg .l (some .e) s)

/-- `LLH` (0xF5), R120. -/
def execLlh (s : State) : Result := .next (loadReg .l (some .h) s)

/-- `LLL` (0xF6), R120. -/
def execLll (s : State) : Result := .next (loadReg .l (some .l) s)

/-- `LAM` (0xC7), R121. -/
def execLam (s : State) : Result := .next (loadReg .a none s)

/-- `LBM` (0xCF), R121. -/
def execLbm (s : State) : Result := .next (loadReg .b none s)

/-- `LCM` (0xD7), R121. -/
def execLcm (s : State) : Result := .next (loadReg .c none s)

/-- `LDM` (0xDF), R121. -/
def execLdm (s : State) : Result := .next (loadReg .d none s)

/-- `LEM` (0xE7), R121. -/
def execLem (s : State) : Result := .next (loadReg .e none s)

/-- `LHM` (0xEF), R121. -/
def execLhm (s : State) : Result := .next (loadReg .h none s)

/-- `LLM` (0xF7), R121. -/
def execLlm (s : State) : Result := .next (loadReg .l none s)

/-- `LMA` (0xF8), R122. -/
def execLma (s : State) : Result := .next (storeReg .a s)

/-- `LMB` (0xF9), R122. -/
def execLmb (s : State) : Result := .next (storeReg .b s)

/-- `LMC` (0xFA), R122. -/
def execLmc (s : State) : Result := .next (storeReg .c s)

/-- `LMD` (0xFB), R122. -/
def execLmd (s : State) : Result := .next (storeReg .d s)

/-- `LME` (0xFC), R122. -/
def execLme (s : State) : Result := .next (storeReg .e s)

/-- `LMH` (0xFD), R122. -/
def execLmh (s : State) : Result := .next (storeReg .h s)

/-- `LML` (0xFE), R122. -/
def execLml (s : State) : Result := .next (storeReg .l s)

/-- `LAI` (0x06), R123. -/
def execLai (imm : Byte) (s : State) : Result := .next (loadImm .a imm s)

/-- `LBI` (0x0E), R123. -/
def execLbi (imm : Byte) (s : State) : Result := .next (loadImm .b imm s)

/-- `LCI` (0x16), R123. -/
def execLci (imm : Byte) (s : State) : Result := .next (loadImm .c imm s)

/-- `LDI` (0x1E), R123. -/
def execLdi (imm : Byte) (s : State) : Result := .next (loadImm .d imm s)

/-- `LEI` (0x26), R123. -/
def execLei (imm : Byte) (s : State) : Result := .next (loadImm .e imm s)

/-- `LHI` (0x2E), R123. -/
def execLhi (imm : Byte) (s : State) : Result := .next (loadImm .h imm s)

/-- `LLI` (0x36), R123. -/
def execLli (imm : Byte) (s : State) : Result := .next (loadImm .l imm s)

/-- `LMI` (0x3E), R124. -/
def execLmi (imm : Byte) (s : State) : Result := .next (storeImm imm s)

end Sys2Proof.Machine
end

