-- ==== Sys2Proof/Machine/Return.lean ====
section
/-! DEFINITION. The return and restart instructions (46_return_restart). The ignored opcode bits `x` have no effect
(R94). -/

namespace Sys2Proof.Machine

/-- A taken return: pop, then T4 and T5 show the new `pc` (R200). It restores nothing but the index (R204). -/
def returnNow (s : State) : State := s.pop.showTarget s.pop.pc

/-- A conditional return: not taken it does nothing further (R201, R202). -/
def returnIf (sense : Bool) (cc : Condition) (s : State) : State :=
  if s.flags.cond sense cc then returnNow s else s

/-- `RST n`: push the vector, then T4 shows 0x00 and T5 its low byte (R203). -/
def restart (n : BitVec 3) (s : State) : State :=
  ((s.push (restartVector n)).visible .t4 0x00).visible .t5 (addrLow (restartVector n))

/-- `RET` (0x07, 0x0F, 0x17, 0x1F, 0x27, 0x2F, 0x37, 0x3F), R200. -/
def execRet (_x : BitVec 3) (s : State) : Result := .next (returnNow s)

/-- `RFC` (0x03), R201. -/
def execRfc (s : State) : Result := .next (returnIf false .carry s)

/-- `RFZ` (0x0B), R201. -/
def execRfz (s : State) : Result := .next (returnIf false .zero s)

/-- `RFS` (0x13), R201. -/
def execRfs (s : State) : Result := .next (returnIf false .sign s)

/-- `RFP` (0x1B), R201. -/
def execRfp (s : State) : Result := .next (returnIf false .parity s)

/-- `RTC` (0x23), R202. -/
def execRtc (s : State) : Result := .next (returnIf true .carry s)

/-- `RTZ` (0x2B), R202. -/
def execRtz (s : State) : Result := .next (returnIf true .zero s)

/-- `RTS` (0x33), R202. -/
def execRts (s : State) : Result := .next (returnIf true .sign s)

/-- `RTP` (0x3B), R202. -/
def execRtp (s : State) : Result := .next (returnIf true .parity s)

/-- `RST_0` (0x05), R203. -/
def execRst_0 (s : State) : Result := .next (restart 0#3 s)

/-- `RST_1` (0x0D), R203. -/
def execRst_1 (s : State) : Result := .next (restart 1#3 s)

/-- `RST_2` (0x15), R203. -/
def execRst_2 (s : State) : Result := .next (restart 2#3 s)

/-- `RST_3` (0x1D), R203. -/
def execRst_3 (s : State) : Result := .next (restart 3#3 s)

/-- `RST_4` (0x25), R203. -/
def execRst_4 (s : State) : Result := .next (restart 4#3 s)

/-- `RST_5` (0x2D), R203. -/
def execRst_5 (s : State) : Result := .next (restart 5#3 s)

/-- `RST_6` (0x35), R203. -/
def execRst_6 (s : State) : Result := .next (restart 6#3 s)

/-- `RST_7` (0x3D), R203. -/
def execRst_7 (s : State) : Result := .next (restart 7#3 s)

end Sys2Proof.Machine
end

