-- ==== Sys2Proof/Machine/Rotate.lean ====
section
/-! DEFINITION. The rotate instructions (44_rotate). The ignored opcode bit `x` has no effect (R94). -/

namespace Sys2Proof.Machine

/-- A rotate of A: T4 shows the old A, carry becomes the bit rotated out, T5 shows the new A; zero, sign and
parity stay (R180 to R184). A rotate through carry reads the old carry (R30). -/
def rotate (op : RotateOp) (s : State) : State :=
  let res := rotateResult op s.regs.a s.flags.c
  (((s.visible .t4 s.regs.a).setFlags (s.flags.setCarry (rotateCarry op s.regs.a))).setReg .a res).visible .t5 res

/-- `RLC` (0x02, 0x22), R180. -/
def execRlc (_x : BitVec 1) (s : State) : Result := .next (rotate .leftCircular s)

/-- `RRC` (0x0A, 0x2A), R181. -/
def execRrc (_x : BitVec 1) (s : State) : Result := .next (rotate .rightCircular s)

/-- `RAL` (0x12, 0x32), R182. -/
def execRal (_x : BitVec 1) (s : State) : Result := .next (rotate .leftThroughCarry s)

/-- `RAR` (0x1A, 0x3A), R183. -/
def execRar (_x : BitVec 1) (s : State) : Result := .next (rotate .rightThroughCarry s)

end Sys2Proof.Machine
end

