-- ==== Sys2Proof/Machine/Dispatch.lean ====
section
/-! DEFINITION. The dispatch: one arm per constructor of Instr, each one direct call of its meaning (R103). -/

namespace Sys2Proof.Machine

def exec (i : Instr) (s : State) : Host.Outcome State Fault Refusal :=
  match i with
  | .laa => Sys2Proof.Machine.execLaa s
  | .lab => Sys2Proof.Machine.execLab s
  | .lac => Sys2Proof.Machine.execLac s
  | .lad => Sys2Proof.Machine.execLad s
  | .lae => Sys2Proof.Machine.execLae s
  | .lah => Sys2Proof.Machine.execLah s
  | .lal => Sys2Proof.Machine.execLal s
  | .lba => Sys2Proof.Machine.execLba s
  | .lbb => Sys2Proof.Machine.execLbb s
  | .lbc => Sys2Proof.Machine.execLbc s
  | .lbd => Sys2Proof.Machine.execLbd s
  | .lbe => Sys2Proof.Machine.execLbe s
  | .lbh => Sys2Proof.Machine.execLbh s
  | .lbl => Sys2Proof.Machine.execLbl s
  | .lca => Sys2Proof.Machine.execLca s
  | .lcb => Sys2Proof.Machine.execLcb s
  | .lcc => Sys2Proof.Machine.execLcc s
  | .lcd => Sys2Proof.Machine.execLcd s
  | .lce => Sys2Proof.Machine.execLce s
  | .lch => Sys2Proof.Machine.execLch s
  | .lcl => Sys2Proof.Machine.execLcl s
  | .lda => Sys2Proof.Machine.execLda s
  | .ldb => Sys2Proof.Machine.execLdb s
  | .ldc => Sys2Proof.Machine.execLdc s
  | .ldd => Sys2Proof.Machine.execLdd s
  | .lde => Sys2Proof.Machine.execLde s
  | .ldh => Sys2Proof.Machine.execLdh s
  | .ldl => Sys2Proof.Machine.execLdl s
  | .lea => Sys2Proof.Machine.execLea s
  | .leb => Sys2Proof.Machine.execLeb s
  | .lec => Sys2Proof.Machine.execLec s
  | .led => Sys2Proof.Machine.execLed s
  | .lee => Sys2Proof.Machine.execLee s
  | .leh => Sys2Proof.Machine.execLeh s
  | .lel => Sys2Proof.Machine.execLel s
  | .lha => Sys2Proof.Machine.execLha s
  | .lhb => Sys2Proof.Machine.execLhb s
  | .lhc => Sys2Proof.Machine.execLhc s
  | .lhd => Sys2Proof.Machine.execLhd s
  | .lhe => Sys2Proof.Machine.execLhe s
  | .lhh => Sys2Proof.Machine.execLhh s
  | .lhl => Sys2Proof.Machine.execLhl s
  | .lla => Sys2Proof.Machine.execLla s
  | .llb => Sys2Proof.Machine.execLlb s
  | .llc => Sys2Proof.Machine.execLlc s
  | .lld => Sys2Proof.Machine.execLld s
  | .lle => Sys2Proof.Machine.execLle s
  | .llh => Sys2Proof.Machine.execLlh s
  | .lll => Sys2Proof.Machine.execLll s
  | .lam => Sys2Proof.Machine.execLam s
  | .lbm => Sys2Proof.Machine.execLbm s
  | .lcm => Sys2Proof.Machine.execLcm s
  | .ldm => Sys2Proof.Machine.execLdm s
  | .lem => Sys2Proof.Machine.execLem s
  | .lhm => Sys2Proof.Machine.execLhm s
  | .llm => Sys2Proof.Machine.execLlm s
  | .lma => Sys2Proof.Machine.execLma s
  | .lmb => Sys2Proof.Machine.execLmb s
  | .lmc => Sys2Proof.Machine.execLmc s
  | .lmd => Sys2Proof.Machine.execLmd s
  | .lme => Sys2Proof.Machine.execLme s
  | .lmh => Sys2Proof.Machine.execLmh s
  | .lml => Sys2Proof.Machine.execLml s
  | .lai imm => Sys2Proof.Machine.execLai imm s
  | .lbi imm => Sys2Proof.Machine.execLbi imm s
  | .lci imm => Sys2Proof.Machine.execLci imm s
  | .ldi imm => Sys2Proof.Machine.execLdi imm s
  | .lei imm => Sys2Proof.Machine.execLei imm s
  | .lhi imm => Sys2Proof.Machine.execLhi imm s
  | .lli imm => Sys2Proof.Machine.execLli imm s
  | .lmi imm => Sys2Proof.Machine.execLmi imm s
  | .ada => Sys2Proof.Machine.execAda s
  | .adb => Sys2Proof.Machine.execAdb s
  | .adc => Sys2Proof.Machine.execAdc s
  | .add => Sys2Proof.Machine.execAdd s
  | .ade => Sys2Proof.Machine.execAde s
  | .adh => Sys2Proof.Machine.execAdh s
  | .adl => Sys2Proof.Machine.execAdl s
  | .adm => Sys2Proof.Machine.execAdm s
  | .adi imm => Sys2Proof.Machine.execAdi imm s
  | .aca => Sys2Proof.Machine.execAca s
  | .acb => Sys2Proof.Machine.execAcb s
  | .acc => Sys2Proof.Machine.execAcc s
  | .acd => Sys2Proof.Machine.execAcd s
  | .ace => Sys2Proof.Machine.execAce s
  | .ach => Sys2Proof.Machine.execAch s
  | .acl => Sys2Proof.Machine.execAcl s
  | .acm => Sys2Proof.Machine.execAcm s
  | .aci imm => Sys2Proof.Machine.execAci imm s
  | .sua => Sys2Proof.Machine.execSua s
  | .sub => Sys2Proof.Machine.execSub s
  | .suc => Sys2Proof.Machine.execSuc s
  | .sud => Sys2Proof.Machine.execSud s
  | .sue => Sys2Proof.Machine.execSue s
  | .suh => Sys2Proof.Machine.execSuh s
  | .sul => Sys2Proof.Machine.execSul s
  | .sum => Sys2Proof.Machine.execSum s
  | .sui imm => Sys2Proof.Machine.execSui imm s
  | .sba => Sys2Proof.Machine.execSba s
  | .sbb => Sys2Proof.Machine.execSbb s
  | .sbc => Sys2Proof.Machine.execSbc s
  | .sbd => Sys2Proof.Machine.execSbd s
  | .sbe => Sys2Proof.Machine.execSbe s
  | .sbh => Sys2Proof.Machine.execSbh s
  | .sbl => Sys2Proof.Machine.execSbl s
  | .sbm => Sys2Proof.Machine.execSbm s
  | .sbi imm => Sys2Proof.Machine.execSbi imm s
  | .nda => Sys2Proof.Machine.execNda s
  | .ndb => Sys2Proof.Machine.execNdb s
  | .ndc => Sys2Proof.Machine.execNdc s
  | .ndd => Sys2Proof.Machine.execNdd s
  | .nde => Sys2Proof.Machine.execNde s
  | .ndh => Sys2Proof.Machine.execNdh s
  | .ndl => Sys2Proof.Machine.execNdl s
  | .ndm => Sys2Proof.Machine.execNdm s
  | .ndi imm => Sys2Proof.Machine.execNdi imm s
  | .xra => Sys2Proof.Machine.execXra s
  | .xrb => Sys2Proof.Machine.execXrb s
  | .xrc => Sys2Proof.Machine.execXrc s
  | .xrd => Sys2Proof.Machine.execXrd s
  | .xre => Sys2Proof.Machine.execXre s
  | .xrh => Sys2Proof.Machine.execXrh s
  | .xrl => Sys2Proof.Machine.execXrl s
  | .xrm => Sys2Proof.Machine.execXrm s
  | .xri imm => Sys2Proof.Machine.execXri imm s
  | .ora => Sys2Proof.Machine.execOra s
  | .orb => Sys2Proof.Machine.execOrb s
  | .orc => Sys2Proof.Machine.execOrc s
  | .ord => Sys2Proof.Machine.execOrd s
  | .ore => Sys2Proof.Machine.execOre s
  | .orh => Sys2Proof.Machine.execOrh s
  | .orl => Sys2Proof.Machine.execOrl s
  | .orm => Sys2Proof.Machine.execOrm s
  | .ori imm => Sys2Proof.Machine.execOri imm s
  | .cpa => Sys2Proof.Machine.execCpa s
  | .cpb => Sys2Proof.Machine.execCpb s
  | .cpc => Sys2Proof.Machine.execCpc s
  | .cpd => Sys2Proof.Machine.execCpd s
  | .cpe => Sys2Proof.Machine.execCpe s
  | .cph => Sys2Proof.Machine.execCph s
  | .cpl => Sys2Proof.Machine.execCpl s
  | .cpm => Sys2Proof.Machine.execCpm s
  | .cpi imm => Sys2Proof.Machine.execCpi imm s
  | .inb => Sys2Proof.Machine.execInb s
  | .inc => Sys2Proof.Machine.execInc s
  | .ind => Sys2Proof.Machine.execInd s
  | .ine => Sys2Proof.Machine.execIne s
  | .inh => Sys2Proof.Machine.execInh s
  | .inl => Sys2Proof.Machine.execInl s
  | .dcb => Sys2Proof.Machine.execDcb s
  | .dcc => Sys2Proof.Machine.execDcc s
  | .dcd => Sys2Proof.Machine.execDcd s
  | .dce => Sys2Proof.Machine.execDce s
  | .dch => Sys2Proof.Machine.execDch s
  | .dcl => Sys2Proof.Machine.execDcl s
  | .unimpl_inm => Sys2Proof.Machine.execUnimpl_inm s
  | .unimpl_dcm => Sys2Proof.Machine.execUnimpl_dcm s
  | .rlc x => Sys2Proof.Machine.execRlc x s
  | .rrc x => Sys2Proof.Machine.execRrc x s
  | .ral x => Sys2Proof.Machine.execRal x s
  | .rar x => Sys2Proof.Machine.execRar x s
  | .jmp x lo hi => Sys2Proof.Machine.execJmp x lo hi s
  | .jfc lo hi => Sys2Proof.Machine.execJfc lo hi s
  | .jfz lo hi => Sys2Proof.Machine.execJfz lo hi s
  | .jfs lo hi => Sys2Proof.Machine.execJfs lo hi s
  | .jfp lo hi => Sys2Proof.Machine.execJfp lo hi s
  | .jtc lo hi => Sys2Proof.Machine.execJtc lo hi s
  | .jtz lo hi => Sys2Proof.Machine.execJtz lo hi s
  | .jts lo hi => Sys2Proof.Machine.execJts lo hi s
  | .jtp lo hi => Sys2Proof.Machine.execJtp lo hi s
  | .cal x lo hi => Sys2Proof.Machine.execCal x lo hi s
  | .cfc lo hi => Sys2Proof.Machine.execCfc lo hi s
  | .cfz lo hi => Sys2Proof.Machine.execCfz lo hi s
  | .cfs lo hi => Sys2Proof.Machine.execCfs lo hi s
  | .cfp lo hi => Sys2Proof.Machine.execCfp lo hi s
  | .ctc lo hi => Sys2Proof.Machine.execCtc lo hi s
  | .ctz lo hi => Sys2Proof.Machine.execCtz lo hi s
  | .cts lo hi => Sys2Proof.Machine.execCts lo hi s
  | .ctp lo hi => Sys2Proof.Machine.execCtp lo hi s
  | .ret x => Sys2Proof.Machine.execRet x s
  | .rfc => Sys2Proof.Machine.execRfc s
  | .rfz => Sys2Proof.Machine.execRfz s
  | .rfs => Sys2Proof.Machine.execRfs s
  | .rfp => Sys2Proof.Machine.execRfp s
  | .rtc => Sys2Proof.Machine.execRtc s
  | .rtz => Sys2Proof.Machine.execRtz s
  | .rts => Sys2Proof.Machine.execRts s
  | .rtp => Sys2Proof.Machine.execRtp s
  | .rst_0 => Sys2Proof.Machine.execRst_0 s
  | .rst_1 => Sys2Proof.Machine.execRst_1 s
  | .rst_2 => Sys2Proof.Machine.execRst_2 s
  | .rst_3 => Sys2Proof.Machine.execRst_3 s
  | .rst_4 => Sys2Proof.Machine.execRst_4 s
  | .rst_5 => Sys2Proof.Machine.execRst_5 s
  | .rst_6 => Sys2Proof.Machine.execRst_6 s
  | .rst_7 => Sys2Proof.Machine.execRst_7 s
  | .inp_0 => Sys2Proof.Machine.execInp_0 s
  | .inp_1 => Sys2Proof.Machine.execInp_1 s
  | .inp_2 => Sys2Proof.Machine.execInp_2 s
  | .inp_3 => Sys2Proof.Machine.execInp_3 s
  | .inp_4 => Sys2Proof.Machine.execInp_4 s
  | .inp_5 => Sys2Proof.Machine.execInp_5 s
  | .inp_6 => Sys2Proof.Machine.execInp_6 s
  | .inp_7 => Sys2Proof.Machine.execInp_7 s
  | .out_8 => Sys2Proof.Machine.execOut_8 s
  | .out_9 => Sys2Proof.Machine.execOut_9 s
  | .out_10 => Sys2Proof.Machine.execOut_10 s
  | .out_11 => Sys2Proof.Machine.execOut_11 s
  | .out_12 => Sys2Proof.Machine.execOut_12 s
  | .out_13 => Sys2Proof.Machine.execOut_13 s
  | .out_14 => Sys2Proof.Machine.execOut_14 s
  | .out_15 => Sys2Proof.Machine.execOut_15 s
  | .out_16 => Sys2Proof.Machine.execOut_16 s
  | .out_17 => Sys2Proof.Machine.execOut_17 s
  | .out_18 => Sys2Proof.Machine.execOut_18 s
  | .out_19 => Sys2Proof.Machine.execOut_19 s
  | .out_20 => Sys2Proof.Machine.execOut_20 s
  | .out_21 => Sys2Proof.Machine.execOut_21 s
  | .out_22 => Sys2Proof.Machine.execOut_22 s
  | .out_23 => Sys2Proof.Machine.execOut_23 s
  | .out_24 => Sys2Proof.Machine.execOut_24 s
  | .out_25 => Sys2Proof.Machine.execOut_25 s
  | .out_26 => Sys2Proof.Machine.execOut_26 s
  | .out_27 => Sys2Proof.Machine.execOut_27 s
  | .out_28 => Sys2Proof.Machine.execOut_28 s
  | .out_29 => Sys2Proof.Machine.execOut_29 s
  | .out_30 => Sys2Proof.Machine.execOut_30 s
  | .out_31 => Sys2Proof.Machine.execOut_31 s
  | .hlt op => Sys2Proof.Machine.execHlt op s

end Sys2Proof.Machine
end

