-- ==== Sys2Proof/Machine/Step.lean ====
section
/-! DEFINITION. One step of the machine (40_fetch_decode R100): the environment's move between steps where
its schedule has one (R9, R235), else the core's step. It only calls the named operations. -/

namespace Sys2Proof.Machine

/-- The end of an instruction cycle, on what the instruction answered (R104). -/
def endStep : Result → Result
  | .next s => .next s.endCycle
  | .fault r => .fault r
  | .refused r => .refused r

/-- `Step()`, the core's only transition (R100): a faulted core makes no step (R248); a STOPPED core polls
(R223); a RUNNING core samples the interrupt latch (R101), fetches (R102), executes (R103), and ends the
cycle (R104). -/
def coreStep (s : State) : Result :=
  match s.fault with
  | .unimplementedOpcode op => .fault (.coreFaulted op)
  | .none =>
    match s.run with
    | .stopped => .next s.stoppedPoll
    | .running =>
      let f := s.sampleInterrupt.fetchInstr
      endStep (exec f.1 f.2)

/-- One step: whose turn it is comes from the schedule, and beyond its end it is the core's (log entry 5).
Reset wins over everything and is taken between steps (R235, R261). -/
def step (s : State) : Host.Outcome State Fault Refusal :=
  match s.schedule with
  | [] => coreStep s
  | .core :: rest => coreStep { s with schedule := rest }
  | .requestInterrupt :: rest => .next (State.requestInterrupt { s with schedule := rest })
  | .reset :: rest => .next (State.resetCore { s with schedule := rest })

/-- `s` with the instruction whose low `nbits` bits are `w` (bits above them 0, three bytes) stored where the
next step fetches it: in memory at `pc`, with the core RUNNING, not faulted and no interrupt pending, so
that the fetch is a normal one, and the environment's script and schedule empty, so that its memory answers
the fetch (log entry 6). -/
def State.withFetchWord (s : State) (nbits w : Nat) : State :=
  let v := w % 2 ^ nbits
  { s with
    interruptRequest := false
    interruptCycle := false
    run := .running
    fault := .none
    script := []
    schedule := []
    mem := ((s.mem.write s.pc (BitVec.ofNat 8 v)).write (s.pc + 1) (BitVec.ofNat 8 (v >>> 8))).write (s.pc + 2)
      (BitVec.ofNat 8 (v >>> 16)) }

end Sys2Proof.Machine
end

