-- ==== Sys2Proof/Safety.lean ====
section
/-! DEFINITION. The terms that claims about the machine use: the closed form of a run of bus transactions,
the bytes the environment answers, the invariant of the states between steps, repeated execution. -/

namespace Sys2Proof.Machine

/-! ## What the environment does in the transactions to come -/

/-- The environment's reply in the `k`-th transaction from now (0 is the next); quiet beyond the script. -/
def State.replyAt (s : State) (k : Nat) : Reply := s.script.getD k Reply.quiet

/-- The byte the environment answers in the `k`-th transaction from now, where it would answer `dflt` if the
script says nothing. -/
def State.answerAt (s : State) (k : Nat) (dflt : Byte) : Byte := (s.replyAt k).answer.getD dflt

/-- The `k`-th transaction from now, of a kind whose answer the core ignores: the script's answer, else a free
value (log entry 4). -/
def State.silent (s : State) (k : Nat) (phase : BusState) (out : Byte) : Transaction :=
  ⟨phase, out, s.answerAt k (Config.freeAnswer (s.trace.length + k))⟩

/-- The interrupt latch after `n` more transactions and no interrupt sample: it is 1 already, or the
environment requests an interrupt in one of them (R31, R232). -/
def State.latchAfter (s : State) (n : Nat) : Bool := s.interruptRequest || (s.script.take n).any Reply.request

/-- The state after exactly the transactions `ts`: they stand at the end of the trace, as many replies are
used up, requests made in them are latched, and nothing else has changed. -/
def State.perform (s : State) (ts : List Transaction) : State :=
  { s with
    interruptRequest := s.latchAfter ts.length
    script := s.script.drop ts.length
    trace := s.trace ++ ts }

/-! ## Whose turn it is -/

/-- The core moves next: its turn is scheduled, or nothing is (log entry 5). -/
def State.coresTurn (s : State) : Bool :=
  match s.schedule with
  | [] => true
  | .core :: _ => true
  | .requestInterrupt :: _ => false
  | .reset :: _ => false

/-- The state with the turn that comes next used up. -/
def State.turnTaken (s : State) : State := { s with schedule := s.schedule.tail }

/-! ## What the write cycles of a trace have written -/

/-- The address and the byte of the write cycle that begins a list of transactions, if one does: T1 drives the
low address byte, T2 the data-write tag and the high six bits, T3 the byte (R56, R61). -/
def writeCycle : List Transaction → Option (Address × Byte)
  | ⟨.t1, low, _⟩ :: ⟨.t2, tagHigh, _⟩ :: ⟨.t3, v, _⟩ :: _ =>
    if tagHigh.extractLsb' 6 2 = 0b11#2 then some (tagHigh.extractLsb' 0 6 ++ low, v) else none
  | _ => none

/-- Memory `m` after every write cycle of a list of transactions, the oldest first. -/
def Memory.replay (m : Memory) : List Transaction → Memory
  | [] => m
  | t :: ts =>
    match writeCycle (t :: ts) with
    | some (a, v) => Memory.replay (m.write a v) ts
    | none => Memory.replay m ts

/-! ## Instruction fetch in closed form -/

/-- The three transactions of the `k`-th machine cycle of a fetch that reads address `a` (R58, R59). -/
def State.fetchCycle (s : State) (k : Nat) (first : BusState) (tag : BitVec 2) (a : Address) (b : Byte) : List Transaction :=
  [s.silent (3 * k) first (a.extractLsb' 0 8), s.silent (3 * k + 1) .t2 (tag ++ a.extractLsb' 8 6), ⟨.t3, 0x00, b⟩]

/-- The three bytes the environment answers where an instruction is fetched in normal cycles from `pc`. -/
def State.fetchedByte (s : State) (k : Nat) : Byte := s.answerAt (3 * k + 2) (s.mem.read (s.pc + BitVec.ofNat 14 k))

/-- The transactions of a normal fetch of an `n`-byte instruction at `pc`, `n` at most 3: an instruction-fetch
cycle begun with T1, then data-read cycles (R58, R59). -/
def State.fetchTransactions (s : State) (n : Nat) : List Transaction :=
  (s.fetchCycle 0 .t1 0b00#2 s.pc (s.fetchedByte 0)
    ++ s.fetchCycle 1 .t1 0b10#2 (s.pc + 1) (s.fetchedByte 1)
    ++ s.fetchCycle 2 .t1 0b10#2 (s.pc + 2) (s.fetchedByte 2)).take (3 * n)

/-- The opcode the environment forces in an interrupt-forced fetch: the script's answer at that fetch's T3,
else the free value (R54, log entry 3). -/
def State.forcedOpcode (s : State) : Byte := s.answerAt 2 (Config.freeOpcode (s.trace.length + 2))

/-- The operand bytes of an interrupt-forced instruction: they are read at `pc`, which the forced opcode fetch
did not advance (R108). -/
def State.forcedOperand (s : State) (k : Nat) : Byte :=
  s.answerAt (3 * k + 5) (s.mem.read (s.pc + BitVec.ofNat 14 k))

/-- The transactions of an interrupt-forced fetch of an `n`-byte instruction: an instruction-fetch cycle begun
with T1I, then data-read cycles begun with T1 (R58, R59, R108). -/
def State.forcedTransactions (s : State) (n : Nat) : List Transaction :=
  (s.fetchCycle 0 .t1I 0b00#2 s.pc s.forcedOpcode
    ++ s.fetchCycle 1 .t1 0b10#2 s.pc (s.forcedOperand 0)
    ++ s.fetchCycle 2 .t1 0b10#2 (s.pc + 1) (s.forcedOperand 1)).take (3 * n)

/-! ## The invariant of the states between steps -/

/-- Bits 15 and 14 of every stack slot are 0 (R24). -/
abbrev State.SlotsLegal (s : State) : Prop := ∀ k : Fin 8, s.stack[k].toNat < 2 ^ 14

/-- The fault latch holds nothing but one of the two unimplemented opcodes (R34). -/
abbrev State.FaultLegal (s : State) : Prop :=
  s.fault = .none ∨ s.fault = .unimplementedOpcode 0x38#8 ∨ s.fault = .unimplementedOpcode 0x39#8

/-- What holds of every state between two steps: the memory is in canonical form, the slots are legal (R24),
no forced cycle is under way (R32), the fault latch is legal (R34). -/
abbrev State.Inv (s : State) : Prop :=
  s.mem.wf = true ∧ s.SlotsLegal ∧ s.interruptCycle = false ∧ s.FaultLegal

/-- The core can make a step: its fault latch is clear (R248: "the core has faulted" is `fault != None`). -/
abbrev State.Live (s : State) : Prop := s.fault = .none

/-! ## The instructions' arithmetic, said over natural numbers -/

/-- The nine-bit ALU result as a natural number (R154): sums as they are, differences modulo 2^9. -/
def aluWide : AluOp → Nat → Nat → Nat → Nat
  | .add, a, b, _ => a + b
  | .addCarry, a, b, cin => a + b + cin
  | .sub, a, b, _ => (a + 512 - b) % 512
  | .subBorrow, a, b, cin => (a + 512 - b - cin) % 512
  | .and, a, b, _ => a &&& b
  | .xor, a, b, _ => a ^^^ b
  | .or, a, b, _ => a ||| b
  | .compare, a, b, _ => (a + 512 - b) % 512

/-- The four flags for a given carry and the result `v`: zero, sign and even parity of `v` (R28). -/
def flagsOf (c : Bool) (v : Byte) : Flags :=
  ⟨c, decide (v.toNat = 0), decide (128 ≤ v.toNat), decide (((List.range 8).filter (fun k => v.toNat.testBit k)).length % 2 = 0)⟩

/-- AND, XOR and OR: the operations that keep carry (R155). -/
def aluKeepsCarry : AluOp → Bool
  | .and | .xor | .or => true
  | .add | .addCarry | .sub | .subBorrow | .compare => false

/-- The target of two address bytes as a natural number (R89): the high byte modulo 64, then the low byte. -/
def targetNat (lo hi : Byte) : Nat := hi.toNat % 64 * 256 + lo.toNat

/-! ## Repetition -/

/-- The same instruction executed `n` times, stopping at the first fault or refusal. -/
def execTimes : Nat → Instr → State → Result
  | 0, _, s => .next s
  | n + 1, i, s =>
    match exec i s with
    | .next t => execTimes n i t
    | .fault r => .fault r
    | .refused r => .refused r

/-- Pushes of the addresses of a list, in order: nested calls, as the address stack sees them (R26). -/
def State.pushAll (s : State) : List Address → State
  | [] => s
  | a :: rest => (s.push a).pushAll rest

end Sys2Proof.Machine
end

