-- ==== Sys2Proof/Certificates/Slice0/Obligations.lean ====
section
/-! DEFINITION. The statements for the provers. Each docstring gives what the statement says and the rules of
spec/ it rests on; "log <n>" is notes/assumptions/<n>.md. The functions of Sys2Proof/Safety.lean give the
closed forms used here: `perform` (a run of transactions), `silent` and `answerAt` (what the environment
answers in the k-th of them; of a `silent` one the core discards the answer, 93_implementation_defined U5), `latchAfter` (the interrupt latch after n of them). -/

open Sys2Proof Sys2Proof.Machine

/-- Decoding the encoding of any well-formed instruction gives it back (derived: R80, R82, R83, R84, R91, R94,
R95). For every well-formed instruction, with every operand byte and every ignored opcode bit at every value,
decoding its encoding followed by any bytes gives that instruction and those bytes. -/
def Obligations.DecodeInvertsEncode : Prop :=
  ∀ (i : Instr) (rest : List Byte), i.wellFormed = true → decode (encode i ++ rest) = .ok (i, rest)

/-- What decoding reads, encoding writes back, bit for bit (derived: R80, R94, R95). Whenever a byte string
decodes, the instruction is well formed and its encoding followed by the remaining bytes is the string. -/
def Obligations.EncodeInvertsDecode : Prop :=
  ∀ (bs : List Byte) (i : Instr) (rest : List Byte), decode bs = .ok (i, rest) → i.wellFormed = true ∧ encode i ++ rest = bs

/-- All 256 opcode bytes decode; 0x38 and 0x39 alone are unimplemented, 0x00, 0x01 and 0xFF alone halt (derived:
R92, R93, R95). Every opcode byte followed by two bytes decodes to an instruction; it is an unimplemented one
exactly for 0x38 and 0x39, and HLT exactly for 0x00, 0x01 and 0xFF. -/
def Obligations.EveryOpcodeByteIsOneInstruction : Prop :=
  ∀ (op b1 b2 : Byte) (rest : List Byte),
    ∃ i r, decode (op :: b1 :: b2 :: rest) = .ok (i, r) ∧
      (i = .unimpl_inm ↔ op = 0x38#8) ∧ (i = .unimpl_dcm ↔ op = 0x39#8) ∧
      (i = .hlt op ↔ op = 0x00#8 ∨ op = 0x01#8 ∨ op = 0xFF#8)

/-- The opcode alone decides the length: three, two or one bytes (stated: R96). An instruction decoded from an
opcode byte and what follows it has three bytes when the class is 1 and bit 0 is 0, two when the class is 0
and the sub-operation is 4 or 6, one otherwise, and decoding leaves exactly the bytes after them. -/
def Obligations.LengthFollowsOpcode : Prop :=
  ∀ (op b1 b2 : Byte) (rest : List Byte) (i : Instr) (r : List Byte),
    decode (op :: b1 :: b2 :: rest) = .ok (i, r) →
      (encode i).length =
          (if op.extractLsb' 6 2 = 1#2 ∧ op[0] = false then 3
           else if op.extractLsb' 6 2 = 0#2 ∧ (op.extractLsb' 0 3 = 4#3 ∨ op.extractLsb' 0 3 = 6#3) then 2 else 1) ∧
        r = (op :: b1 :: b2 :: rest).drop (encode i).length

/-- One word of each family decodes to the instruction the spec gives it (derived: R120, R132, R170, R193, R203,
R210, R211). The words of the worked examples of the spec (one of each family) decode to the instructions the
spec names. -/
def Obligations.SampleWordsDecode : Prop :=
  decode [0b11000001#8] = .ok (.lab, []) ∧ decode [0b11010111#8] = .ok (.lcm, []) ∧
    decode [0b11111011#8] = .ok (.lmd, []) ∧ decode [0b00100110#8, 0x7F#8] = .ok (.lei 0x7F#8, []) ∧
    decode [0b10000001#8] = .ok (.adb, []) ∧ decode [0b00000100#8, 0x20#8] = .ok (.adi 0x20#8, []) ∧
    decode [0b00110000#8] = .ok (.inl, []) ∧ decode [0b00101001#8] = .ok (.dch, []) ∧
    decode [0b00010010#8] = .ok (.ral 0#1, []) ∧
    decode [0b01101000#8, 0x34#8, 0x12#8] = .ok (.jtz 0x34#8 0x12#8, []) ∧
    decode [0b00101101#8] = .ok (.rst_5, []) ∧ decode [0b01000111#8] = .ok (.inp_3, []) ∧
    decode [0b01100011#8] = .ok (.out_17, []) ∧ decode [0b11111111#8] = .ok (.hlt 0xFF#8, [])

/-- Every alias opcode byte executes exactly as its canonical form (stated: R94). Whatever the ignored opcode bits
are, RET, JMP, CAL, the four rotates and HLT (0x00, 0x01, 0xFF) execute as the canonical byte does, in every
state and with every operand bytes. -/
def Obligations.AliasBytesExecuteAlike : Prop :=
  ∀ (x : BitVec 3) (y : BitVec 1) (lo hi : Byte) (s : State),
    exec (instrOf (0b00#2 ++ x ++ 0b111#3) lo hi) s = exec (instrOf 0x07#8 lo hi) s ∧
    exec (instrOf (0b01#2 ++ x ++ 0b100#3) lo hi) s = exec (instrOf 0x44#8 lo hi) s ∧
    exec (instrOf (0b01#2 ++ x ++ 0b110#3) lo hi) s = exec (instrOf 0x46#8 lo hi) s ∧
    exec (instrOf (0b00#2 ++ y ++ 0b00010#5) lo hi) s = exec (instrOf 0x02#8 lo hi) s ∧
    exec (instrOf (0b00#2 ++ y ++ 0b01010#5) lo hi) s = exec (instrOf 0x0A#8 lo hi) s ∧
    exec (instrOf (0b00#2 ++ y ++ 0b10010#5) lo hi) s = exec (instrOf 0x12#8 lo hi) s ∧
    exec (instrOf (0b00#2 ++ y ++ 0b11010#5) lo hi) s = exec (instrOf 0x1A#8 lo hi) s ∧
    exec (instrOf (0b0000000#7 ++ y) lo hi) s = exec (instrOf 0x00#8 lo hi) s ∧
    exec (instrOf 0xFF#8 lo hi) s = exec (instrOf 0x00#8 lo hi) s

/-- A normal step fetches the bytes at pc, moves pc past them and executes what they decode to (derived: R58, R59,
R96, R100, R102, R103, R104). In a RUNNING, unfaulted state with no interrupt pending and the core's turn
next, scheduled or not (log 5), when the bytes answered at pc (memory's, where the environment's script does
not say otherwise, log 2) decode to a well-formed instruction i, the step is exec of i in the state after
exactly the transactions of that fetch with pc past the instruction's bytes, and then interrupt_cycle is
cleared. -/
def Obligations.StepRunsDecodedInstruction : Prop :=
  ∀ (s : State) (i : Instr) (rest : List Byte),
    s.coresTurn = true → s.fault = .none → s.run = .running → s.interruptRequest = false → s.interruptCycle = false →
    decode [s.fetchedByte 0, s.fetchedByte 1, s.fetchedByte 2] = .ok (i, rest) → i.wellFormed = true →
      step s =
        endStep (exec i
          ((s.turnTaken.perform (s.fetchTransactions (encode i).length)).setPc (s.pc + BitVec.ofNat 14 (encode i).length)))

/-- With an interrupt pending a step executes the opcode the environment supplies and does not advance pc over it
(derived: R54, R58, R101, R108, R236). In a RUNNING, unfaulted state with interrupt_request 1 and the core's
turn next, scheduled or not (log 5), the latch is cleared before the first transaction, the fetch begins with
T1I, the opcode is the one the environment forces (the script's answer, else a free value, log 3), its operand
bytes are read at pc, pc advances over the operand bytes only, and the step is exec of what they decode to;
requests made during the step stay latched. -/
def Obligations.ForcedStepRunsSuppliedInstruction : Prop :=
  ∀ (s : State) (i : Instr) (rest : List Byte),
    s.coresTurn = true → s.fault = .none → s.run = .running → s.interruptRequest = true →
    decode [s.forcedOpcode, s.forcedOperand 0, s.forcedOperand 1] = .ok (i, rest) →
      let t := State.perform { s.turnTaken with interruptRequest := false, interruptCycle := true }
        (s.forcedTransactions (encode i).length)
      step s =
        endStep (exec i
          (if (encode i).length = 1 then t else t.setPc (s.pc + BitVec.ofNat 14 ((encode i).length - 1))))

/-- A STOPPED step is one STOPPED transaction, after which the core runs exactly if the latch is 1 (stated: R223).
In a STOPPED, unfaulted state with the core's turn next, scheduled or not (log 5), the step performs exactly
one STOPPED transaction driving 0x00; the core becomes RUNNING if interrupt_request is 1 after it and stays
STOPPED if not; the latch is not cleared and nothing else of the core or the memory changes. -/
def Obligations.StoppedCorePolls : Prop :=
  ∀ s : State, s.coresTurn = true → s.fault = .none → s.run = .stopped →
    step s =
      .next { s.turnTaken.perform [s.silent 0 .stopped 0x00#8] with run := if s.latchAfter 1 then .running else .stopped }

/-- A faulted core makes no step; a request only sets the latch; only reset clears the fault (derived: R231, R235,
R248). While the fault latch holds an opcode the core's step ends in the fault coreFaulted (the model's way to
say that no step exists, log 7); a request by the environment changes nothing but interrupt_request; after a
reset the fault latch is clear. -/
def Obligations.FaultedCoreMakesNoStep : Prop :=
  ∀ (s : State) (op : Byte) (rest : List Turn), s.fault = .unimplementedOpcode op →
    (s.schedule = [] → step s = .fault (.coreFaulted op)) ∧
    (s.schedule = .core :: rest → step s = .fault (.coreFaulted op)) ∧
    (s.schedule = .requestInterrupt :: rest → step s = .next { s with schedule := rest, interruptRequest := true }) ∧
    (s.schedule = .reset :: rest → ∃ t, step s = .next t ∧ t.fault = .none)

/-- A step is the move whose turn it is, the core, a request or a reset, and uses up that turn (log 5) (derived:
R9, R100, R232, R235, R261). The schedule is the model's own (log 5): a core turn is the core's step on the
rest of the schedule, a request turn sets interrupt_request and nothing else, a reset turn is the reset on the
rest of the schedule, with nothing scheduled the core steps; and whatever the step, its next state has the
schedule without the turn taken: the core neither adds nor removes turns. -/
def Obligations.ScheduledTurnIsTaken : Prop :=
  ∀ (s : State) (rest : List Turn),
    step { s with schedule := .core :: rest } = coreStep { s with schedule := rest } ∧
    step { s with schedule := .requestInterrupt :: rest } = .next { s with schedule := rest, interruptRequest := true } ∧
    step { s with schedule := .reset :: rest } = .next (State.resetCore { s with schedule := rest }) ∧
    step { s with schedule := [] } = coreStep { s with schedule := [] } ∧
    ∀ t : State, step s = .next t → t.schedule = s.schedule.tail

/-- Reset replaces the whole state of the core and performs one STOPPED transaction (stated: R260). Whatever the
state, faulted or not, a reset by the environment leaves every register, flag and stack slot 0, the index 0,
interrupt_cycle 0, no fault, and performs exactly one STOPPED transaction driving 0x00, after which the core
is RUNNING with interrupt_request 1 if the environment requested an interrupt in it and STOPPED with
interrupt_request 0 if not; memory is not touched. -/
def Obligations.ResetReplacesTheCore : Prop :=
  ∀ (s : State) (rest : List Turn), s.schedule = .reset :: rest →
    step s =
      .next
        { regs := ⟨0, 0, 0, 0, 0, 0, 0⟩, flags := ⟨false, false, false, false⟩, stack := Vector.replicate 8 0, sp := 0
          interruptRequest := (s.replyAt 0).request, interruptCycle := false
          run := if (s.replyAt 0).request then .running else .stopped, fault := .none
          mem := s.mem, script := s.script.drop 1, schedule := rest
          trace := s.trace ++ [s.silent 0 .stopped 0x00#8] }

/-- After reset every piece of the core holds the value of the reset table (stated: R38). In State.reset every
register is 0x00, every flag 0, every stack slot 0x0000, sp 0, pc 0x0000, interrupt_request 0, interrupt_cycle
0, run STOPPED and fault None. -/
def Obligations.ResetStateHoldsResetValues : Prop :=
  State.reset.regs = ⟨0, 0, 0, 0, 0, 0, 0⟩ ∧ State.reset.flags = ⟨false, false, false, false⟩ ∧
    (∀ k : Fin 8, State.reset.stack[k] = 0x0000#16) ∧ State.reset.sp = 0#3 ∧ State.reset.pc = 0x0000#14 ∧
    State.reset.interruptRequest = false ∧ State.reset.interruptCycle = false ∧ State.reset.run = .stopped ∧
    State.reset.fault = .none

/-- From reset, a request in the STOPPED poll and a forced RST n start the program at 8n (derived: R54, R203,
R223, R262). From the reset state, with an environment that requests an interrupt in the next STOPPED
transaction and answers RST n at the T3 of the forced fetch, two steps lead to pc = 8n, sp = 1, stack[0] =
0x0000, RUNNING, no interrupt pending. The start is the model's State.reset, left by a reset whose own STOPPED
transaction brought no request (log 15), and the start-up is that of log 6: the trace therefore has two
STOPPED transactions, the one of the reset and the poll in which the request comes, before the forced fetch. -/
def Obligations.FirstInstructionAfterResetIsForced : Prop :=
  ∀ n : BitVec 3, ∃ s1 s2,
    step { State.reset with script := [⟨none, true⟩, ⟨none, false⟩, ⟨none, false⟩, ⟨some (0b00#2 ++ n ++ 0b101#3), false⟩] } =
        .next s1 ∧
      step s1 = .next s2 ∧ s2.pc = BitVec.ofNat 14 (8 * n.toNat) ∧ s2.sp = 1#3 ∧ s2.slot 0#3 = 0x0000#16 ∧
      s2.run = .running ∧ s2.interruptRequest = false ∧
      s2.trace.map (fun t => (t.phase, t.out)) =
        [(.stopped, 0x00#8), (.stopped, 0x00#8), (.t1I, 0x00#8), (.t2, 0x00#8), (.t3, 0x00#8), (.t4, 0x00#8),
          (.t5, BitVec.ofNat 8 (8 * n.toNat))]

/-- A step takes the core from STOPPED to RUNNING only by a STOPPED transaction with the latch 1 after it
(derived: R33, R222, R224, R225). Whenever a step, whoever moves, leads from a STOPPED state to a RUNNING one,
interrupt_request is 1 afterwards and the step performed exactly one transaction, a STOPPED one. -/
def Obligations.StoppedCoreWakesOnlyByRequest : Prop :=
  ∀ s t : State, step s = .next t → s.run = .stopped → t.run = .running →
    t.interruptRequest = true ∧ ∃ inp, t.trace = s.trace ++ [⟨.stopped, 0x00#8, inp⟩]

/-- No instruction clears a pending interrupt request; only the interrupt sample of a RUNNING core and reset do
(derived: R31, R35, R101, R234, R260). Whatever the instruction, if interrupt_request is 1 before it executes
it is 1 after it. Whatever the step, if interrupt_request is 1 before it and 0 after it, the step was a reset
by the environment, or a step of a RUNNING, unfaulted core, which samples the latch before its fetch. -/
def Obligations.InstructionsKeepAPendingRequest : Prop :=
  (∀ (i : Instr) (s t : State), exec i s = .next t → s.interruptRequest = true → t.interruptRequest = true) ∧
    ∀ s t : State, step s = .next t → s.interruptRequest = true → t.interruptRequest = false →
      (∃ rest, s.schedule = .reset :: rest) ∨ (s.coresTurn = true ∧ s.fault = .none ∧ s.run = .running)

/-- A step only appends to the trace, and each transaction it adds uses exactly one reply of the environment
(derived: R8, R50, R66, R69). Whatever moves, a step never alters the trace so far: it appends some
transactions, and of the environment's script (the model's own, log 2) exactly as many replies are used up, in
order. -/
def Obligations.EveryTransactionIsTracedOnce : Prop :=
  ∀ s t : State, step s = .next t → ∃ ts : List Transaction, t.trace = s.trace ++ ts ∧ t.script = s.script.drop ts.length

/-- A step of a RUNNING core performs between 3 and 11 transactions (derived: R100, R270). A step of a RUNNING,
unfaulted core, forced or not, its turn scheduled or not (log 5), adds at least three and at most eleven
transactions to the trace. -/
def Obligations.RunningStepHasThreeToElevenTransactions : Prop :=
  ∀ s t : State, s.coresTurn = true → s.fault = .none → s.run = .running → step s = .next t →
    s.trace.length + 3 ≤ t.trace.length ∧ t.trace.length ≤ s.trace.length + 11

/-- Every step keeps: memory canonical, slot bits 15 and 14 zero, interrupt_cycle 0, fault latch legal (derived:
R24, R32, R34, R104). From every state in which the memory has its canonical form (the model's, log 1), bits
15 and 14 of every stack slot are 0, interrupt_cycle is 0 and the fault latch holds None or one of the two
unimplemented opcodes, a step that answers a next state answers one in which all of this holds. -/
def Obligations.StepKeepsLegalStates : Prop :=
  ∀ s t : State, s.Inv → step s = .next t → t.Inv

/-- The reset state satisfies the invariant (derived: R24, R32, R34, R38). In the reset state the memory has its
canonical form, every slot is legal, interrupt_cycle is 0 and the fault latch is legal. -/
def Obligations.ResetStateIsLegal : Prop :=
  State.reset.Inv

/-- While STOPPED the core's step changes no register, flag, stack slot, index or byte of memory (derived: R222,
R225). A core step of a STOPPED core changes no register, no flag, no stack slot, no index, no fault latch, no
interrupt_cycle and no byte of memory. -/
def Obligations.StoppedCoreKeepsProgramState : Prop :=
  ∀ s t : State, s.run = .stopped → coreStep s = .next t →
    t.regs = s.regs ∧ t.flags = s.flags ∧ t.stack = s.stack ∧ t.sp = s.sp ∧ t.fault = s.fault ∧
      t.interruptCycle = s.interruptCycle ∧ ∀ a : Address, t.mem.read a = s.mem.read a

/-- An instruction, and a step, changes memory only by a write cycle, its last three transactions (derived: R61,
R66, R74). Whatever the instruction, either memory is unchanged, or the instruction ended with a write cycle
T1(L), T2 with the data-write tag and H[5:0], T3(v), and memory is the old memory with v written at the memory
operand's address (that the environment's memory takes the byte is the model's, log 17); every other address
reads as before. Whatever the step, either memory is unchanged, or the step was a RUNNING, unfaulted core's
and ended with a write cycle at some address a, driving a and v, and memory is the old memory with v written
at a: fetches, polls, requests and resets leave memory alone. -/
def Obligations.MemoryChangesOnlyByWriteCycle : Prop :=
  (∀ (i : Instr) (s t : State), exec i s = .next t →
      (t.mem = s.mem ∨
        ∃ (v : Byte) (pre : List Transaction) (x y z : Byte),
          t.mem = s.mem.write s.memAddr v ∧
          t.trace = pre ++ [⟨.t1, s.regs.l, x⟩, ⟨.t2, 0b11#2 ++ s.regs.h.extractLsb' 0 6, y⟩, ⟨.t3, v, z⟩]) ∧
      ∀ a : Address, a ≠ s.memAddr → t.mem.read a = s.mem.read a) ∧
    ∀ s t : State, step s = .next t →
      t.mem = s.mem ∨
        (s.coresTurn = true ∧ s.fault = .none ∧ s.run = .running ∧
          ∃ (a : Address) (v : Byte) (pre : List Transaction) (x y z : Byte),
            t.mem = s.mem.write a v ∧
            t.trace =
              s.trace ++ pre ++ [⟨.t1, a.extractLsb' 0 8, x⟩, ⟨.t2, 0b11#2 ++ a.extractLsb' 8 6, y⟩, ⟨.t3, v, z⟩])

/-- Carry changes only by arithmetic, compare or rotate opcodes; zero, sign, parity only by ALU, increment,
decrement (derived: R29, R125, R155, R172, R184). If an instruction changes carry, its opcode is an add,
subtract or compare form of the ALU family or a rotate; if it changes zero, sign or parity, its opcode is of
the ALU family or an increment or decrement of a register other than A (so none of 0x00, 0x01, 0x38, 0x39). -/
def Obligations.OnlyFlagWritersChangeFlags : Prop :=
  ∀ (i : Instr) (s t : State) (op : Byte) (rest : List Byte), exec i s = .next t → encode i = op :: rest →
    (t.flags.c ≠ s.flags.c →
      ((op.extractLsb' 6 2 = 2#2 ∨ (op.extractLsb' 6 2 = 0#2 ∧ op.extractLsb' 0 3 = 4#3)) ∧
          (op[5] = false ∨ op.extractLsb' 3 3 = 7#3)) ∨
        (op.extractLsb' 6 2 = 0#2 ∧ op.extractLsb' 0 3 = 2#3)) ∧
    ((t.flags.z, t.flags.s, t.flags.p) ≠ (s.flags.z, s.flags.s, s.flags.p) →
      op.extractLsb' 6 2 = 2#2 ∨
        (op.extractLsb' 6 2 = 0#2 ∧
          (op.extractLsb' 0 3 = 4#3 ∨
            ((op.extractLsb' 0 3 = 0#3 ∨ op.extractLsb' 0 3 = 1#3) ∧ op.extractLsb' 3 3 ≠ 0#3 ∧ op.extractLsb' 3 3 ≠ 7#3))))

/-- Only calls, returns and restarts move the stack index, by one (derived: R26, R35). If an instruction changes
sp, it is a call or a restart and sp advanced by 1 modulo 8, or it is a return and sp retreated by 1 modulo 8. -/
def Obligations.OnlyCallsReturnsRestartsMoveTheIndex : Prop :=
  ∀ (i : Instr) (s t : State) (op : Byte) (rest : List Byte), exec i s = .next t → encode i = op :: rest → t.sp ≠ s.sp →
    (t.sp = s.sp + 1 ∧
        ((op.extractLsb' 6 2 = 1#2 ∧ op.extractLsb' 0 2 = 2#2) ∨
          (op.extractLsb' 6 2 = 0#2 ∧ op.extractLsb' 0 3 = 5#3))) ∨
      (t.sp = s.sp - 1 ∧ op.extractLsb' 6 2 = 0#2 ∧ (op.extractLsb' 0 3 = 3#3 ∨ op.extractLsb' 0 3 = 7#3))

/-- The model's memory: a byte written is the byte read (log 1) (derived: 20_memory.md R52, 20_memory.md R53). In
the model's memory (the environment's, a choice of the model, log 1), whenever the list is in canonical form,
reading an address just written gives the byte written. -/
def Obligations.ReadAfterWriteGivesTheByte : Prop :=
  ∀ (m : Memory) (a : Address) (b : Byte), m.wf = true → (m.write a b).read a = b

/-- The model's memory: a write leaves every other address alone (log 1) (derived: 20_memory.md R52, 20_memory.md
R53). In the model's memory (log 1) a write to one address leaves what every other address reads unchanged. -/
def Obligations.WriteLeavesOtherBytes : Prop :=
  ∀ (m : Memory) (a c : Address) (b : Byte), c ≠ a → (m.write a b).read c = m.read c

/-- The model's memory: canonical lists that read alike everywhere are equal (log 1) (derived: 20_memory.md R52).
Two memories of the model in canonical form (log 1) whose 2^14 bytes read the same are the same list. -/
def Obligations.CanonicalMemoriesAreEqualData : Prop :=
  ∀ m m' : Memory, m.wf = true → m'.wf = true → (∀ a : Address, m.read a = m'.read a) → m = m'

/-- The memory operand address is H modulo 64 followed by L; the top two bits of H do not matter (derived: R23).
The address of the memory operand is (H mod 64) * 256 + L, and replacing bits 7 and 6 of H does not change it. -/
def Obligations.MemoryOperandAddressIsFourteenBits : Prop :=
  ∀ (s : State) (x : BitVec 2),
    s.memAddr.toNat = s.regs.h.toNat % 64 * 256 + s.regs.l.toNat ∧
      (s.setReg .h (x ++ s.regs.h.extractLsb' 0 6)).memAddr = s.memAddr

/-- L d s: all 49 register-to-register loads, whole next state (stated: R120). For every destination and source
register, the load is encoded 11 ddd sss and executes to the state in which exactly T4 and T5 driving the
source have been performed and the destination holds the source: no flag, other register, stack slot, index or
byte of memory changes. With d = s no register changes. -/
def Obligations.LoadCopiesRegister : Prop :=
  ∀ (dst src : Reg) (s : State),
    encode (loadInstr dst src) = [0b11#2 ++ dst.bits ++ src.bits] ∧
    exec (loadInstr dst src) s =
      .next
        { s.perform [s.silent 0 .t4 (s.regs.get src), s.silent 1 .t5 (s.regs.get src)] with
          regs := s.regs.set dst (s.regs.get src) } ∧
    s.regs.set dst (s.regs.get dst) = s.regs

/-- L d M: all 7 loads from memory, whole next state (derived: R121, R23, R60). For every destination register,
the load is encoded 11 ddd 111 and executes to the state after a data-read cycle at the address of the old H
and L and T4, T5 driving the byte read (the environment's answer: the script's, else the memory's, log 2),
with the destination holding that byte and nothing else changed; every byte of memory reads as before. -/
def Obligations.LoadReadsMemoryOperand : Prop :=
  ∀ (dst : Reg) (s : State),
    let b := s.answerAt 2 (s.mem.read (BitVec.ofNat 14 (s.regs.h.toNat % 64 * 256 + s.regs.l.toNat)))
    encode (loadMemInstr dst) = [0b11#2 ++ dst.bits ++ 0b111#3] ∧
    exec (loadMemInstr dst) s =
      .next
        { s.perform [s.silent 0 .t1 s.regs.l, s.silent 1 .t2 (0b10#2 ++ s.regs.h.extractLsb' 0 6), ⟨.t3, 0x00#8, b⟩,
            s.silent 3 .t4 b, s.silent 4 .t5 b] with
          regs := s.regs.set dst b }

/-- LM s: all 7 stores, whole next state (derived: R122, R23, R61). For every source register, the store is
encoded 11 111 sss and executes to the state after T4 driving the register and a data-write cycle driving it
at T3, with the byte written at the address of H and L in the environment's memory (log 17); no register,
flag, stack slot or index changes and every other address of memory reads as before. -/
def Obligations.StoreWritesMemoryOperand : Prop :=
  ∀ (src : Reg) (s : State),
    let a := BitVec.ofNat 14 (s.regs.h.toNat % 64 * 256 + s.regs.l.toNat)
    let v := s.regs.get src
    encode (storeInstr src) = [0b11#2 ++ 0b111#3 ++ src.bits] ∧
    exec (storeInstr src) s =
      .next
        { s.perform [s.silent 0 .t4 v, s.silent 1 .t1 s.regs.l, s.silent 2 .t2 (0b11#2 ++ s.regs.h.extractLsb' 0 6),
            s.silent 3 .t3 v] with
          mem := s.mem.write a v } ∧
    ∀ c : Address, c ≠ a → (s.mem.write a v).read c = s.mem.read c

/-- L d I: all 7 immediate loads, whole next state after the operand byte is fetched (derived: R123). For every
destination register and operand byte, the load is encoded 00 ddd 110 followed by the byte and, its operand
fetched, executes to the state after T4 and T5 driving the byte, with the destination holding it and nothing
else changed. -/
def Obligations.LoadImmediateSetsRegister : Prop :=
  ∀ (dst : Reg) (imm : Byte) (s : State),
    encode (loadImmInstr dst imm) = [0b00#2 ++ dst.bits ++ 0b110#3, imm] ∧
    exec (loadImmInstr dst imm) s =
      .next { s.perform [s.silent 0 .t4 imm, s.silent 1 .t5 imm] with regs := s.regs.set dst imm }

/-- LMI: whole next state after the operand byte is fetched (derived: R124). LMI is encoded 0x3E followed by its
byte and, its operand fetched, executes to the state after a data-write cycle driving the byte, which is
written at the address of H and L in the environment's memory (log 17); nothing else changes and every other
address reads as before. -/
def Obligations.StoreImmediateWritesMemoryOperand : Prop :=
  ∀ (imm : Byte) (s : State),
    let a := BitVec.ofNat 14 (s.regs.h.toNat % 64 * 256 + s.regs.l.toNat)
    encode (.lmi imm) = [0x3E#8, imm] ∧
    exec (.lmi imm) s =
      .next
        { s.perform [s.silent 0 .t1 s.regs.l, s.silent 1 .t2 (0b11#2 ++ s.regs.h.extractLsb' 0 6), s.silent 2 .t3 imm] with
          mem := s.mem.write a imm } ∧
    ∀ c : Address, c ≠ a → (s.mem.write a imm).read c = s.mem.read c

/-- The 56 ALU register forms, whole next state (stated: R130, R133, R136, R139, R142, R145, R148, R151). For
every operation and register, the instruction is encoded 10 PPP sss and executes to the state after T4 driving
the register and T5 driving the eight-bit result, with A holding the result (compare: A kept), carry bit 8 of
the nine-bit result (AND, XOR, OR: carry kept) and zero, sign, parity of the result; nothing else changes. The
nine-bit result is the sum or difference of natural numbers, with the carry as it was before where the
operation takes it. -/
def Obligations.AluRegisterForms : Prop :=
  ∀ (op : AluOp) (r : Reg) (s : State),
    let b := s.regs.get r
    let w := aluWide op s.regs.a.toNat b.toNat s.flags.c.toNat
    let res : Byte := BitVec.ofNat 8 w
    encode (aluRegInstr op r) = [0b10#2 ++ op.bits ++ r.bits] ∧
    exec (aluRegInstr op r) s =
      .next
        { s.perform [s.silent 0 .t4 b, s.silent 1 .t5 res] with
          regs := if op = .compare then s.regs else s.regs.set .a res
          flags := flagsOf (if aluKeepsCarry op then s.flags.c else decide (256 ≤ w)) res }

/-- The 8 ALU memory forms, whole next state (derived: R131, R134, R137, R140, R143, R146, R149, R152). For every
operation, the instruction is encoded 10 PPP 111 and executes to the state after a data-read cycle at the
address of H and L (the byte is the environment's answer: the script's, else the memory's, log 2), T4 driving
the byte and T5 driving the result, with A and the flags as the register form computes them from that byte;
nothing else changes. -/
def Obligations.AluMemoryForms : Prop :=
  ∀ (op : AluOp) (s : State),
    let b := s.answerAt 2 (s.mem.read (BitVec.ofNat 14 (s.regs.h.toNat % 64 * 256 + s.regs.l.toNat)))
    let w := aluWide op s.regs.a.toNat b.toNat s.flags.c.toNat
    let res : Byte := BitVec.ofNat 8 w
    encode (aluMemInstr op) = [0b10#2 ++ op.bits ++ 0b111#3] ∧
    exec (aluMemInstr op) s =
      .next
        { s.perform [s.silent 0 .t1 s.regs.l, s.silent 1 .t2 (0b10#2 ++ s.regs.h.extractLsb' 0 6), ⟨.t3, 0x00#8, b⟩,
            s.silent 3 .t4 b, s.silent 4 .t5 res] with
          regs := if op = .compare then s.regs else s.regs.set .a res
          flags := flagsOf (if aluKeepsCarry op then s.flags.c else decide (256 ≤ w)) res }

/-- The 8 ALU immediate forms, whole next state after the operand byte is fetched (derived: R132, R135, R138,
R141, R144, R147, R150, R153). For every operation and operand byte, the instruction is encoded 00 PPP 100
followed by the byte and, its operand fetched, executes to the state after T4 driving the byte and T5 driving
the result, with A and the flags as the register form computes them from that byte; nothing else changes. -/
def Obligations.AluImmediateForms : Prop :=
  ∀ (op : AluOp) (b : Byte) (s : State),
    let w := aluWide op s.regs.a.toNat b.toNat s.flags.c.toNat
    let res : Byte := BitVec.ofNat 8 w
    encode (aluImmInstr op b) = [0b00#2 ++ op.bits ++ 0b100#3, b] ∧
    exec (aluImmInstr op b) s =
      .next
        { s.perform [s.silent 0 .t4 b, s.silent 1 .t5 res] with
          regs := if op = .compare then s.regs else s.regs.set .a res
          flags := flagsOf (if aluKeepsCarry op then s.flags.c else decide (256 ≤ w)) res }

/-- The ALU function is the table of nine-bit results, and bit 8 of a difference is the borrow (stated: R154). For
every operation, operands and carry-in the nine-bit result is that of the table (sums, differences modulo 2^9,
bitwise operations with bit 8 zero), sums stay below 2^9, and for subtract, subtract with borrow and compare
bit 8 is 1 exactly when the true difference is negative. -/
def Obligations.AluFunctionTable : Prop :=
  ∀ (op : AluOp) (a b : Byte) (cin : Bool),
    (alu op a b cin).toNat = aluWide op a.toNat b.toNat cin.toNat ∧
    a.toNat + b.toNat + cin.toNat ≤ 0x1FF ∧
    (alu .sub a b cin)[8] = decide (a.toNat < b.toNat) ∧
    (alu .subBorrow a b cin)[8] = decide (a.toNat < b.toNat + cin.toNat) ∧
    (alu .compare a b cin)[8] = decide (a.toNat < b.toNat)

/-- Subtract then add of the same register, and subtract then add of the same immediate, restore A (derived:
R157). For every register but A, and for every immediate byte, executing the subtract and then the add of the
same operand leaves A as it was. -/
def Obligations.SubtractThenAddRestoresA : Prop :=
  ∀ (r : Reg) (b : Byte) (s t u : State),
    (r ≠ .a → exec (aluRegInstr .sub r) s = .next t → exec (aluRegInstr .add r) t = .next u → u.regs = s.regs) ∧
    (exec (.sui b) s = .next t → exec (.adi b) t = .next u → u.regs = s.regs)

/-- With carry 0, add with carry is add and subtract with borrow is subtract (derived: R157). In every state whose
carry is 0, for every register, the memory operand and every immediate byte, AC executes exactly as AD and SB
exactly as SU. -/
def Obligations.CarryFormsWithCarryClear : Prop :=
  ∀ (r : Reg) (b : Byte) (s : State), s.flags.c = false →
    exec (aluRegInstr .addCarry r) s = exec (aluRegInstr .add r) s ∧
    exec (aluRegInstr .subBorrow r) s = exec (aluRegInstr .sub r) s ∧
    exec .acm s = exec .adm s ∧ exec .sbm s = exec .sum s ∧
    exec (.aci b) s = exec (.adi b) s ∧ exec (.sbi b) s = exec (.sui b) s

/-- IN r: the 6 increments, whole next state, carry untouched (stated: R170). For every register but A, the
instruction is encoded 00 ddd 000 and executes to the state after T4 driving the old value and T5 driving the
new one, with the register increased by one modulo 256, zero, sign and parity of the result and carry as it
was; nothing else changes. The encoding with A selected is HLT. -/
def Obligations.IncrementKeepsCarry : Prop :=
  ∀ (r : Reg) (op : Byte) (s : State),
    let res : Byte := BitVec.ofNat 8 ((s.regs.get r).toNat + 1)
    incInstr .a op = .hlt op ∧
    (r ≠ .a →
      encode (incInstr r op) = [0b00#2 ++ r.bits ++ 0b000#3] ∧
      exec (incInstr r op) s =
        .next
          { s.perform [s.silent 0 .t4 (s.regs.get r), s.silent 1 .t5 res] with
            regs := s.regs.set r res
            flags := flagsOf s.flags.c res })

/-- DC r: the 6 decrements, whole next state, carry untouched (stated: R171). For every register but A, the
instruction is encoded 00 ddd 001 and executes to the state after T4 driving the old value and T5 driving the
new one, with the register decreased by one modulo 256, zero, sign and parity of the result and carry as it
was; nothing else changes. The encoding with A selected is HLT. -/
def Obligations.DecrementKeepsCarry : Prop :=
  ∀ (r : Reg) (op : Byte) (s : State),
    let res : Byte := BitVec.ofNat 8 ((s.regs.get r).toNat + 255)
    decInstr .a op = .hlt op ∧
    (r ≠ .a →
      encode (decInstr r op) = [0b00#2 ++ r.bits ++ 0b001#3] ∧
      exec (decInstr r op) s =
        .next
          { s.perform [s.silent 0 .t4 (s.regs.get r), s.silent 1 .t5 res] with
            regs := s.regs.set r res
            flags := flagsOf s.flags.c res })

/-- Opcodes 0x38 and 0x39 latch the fault and change nothing else, and the core then makes no step (derived: R172,
R231, R248). Executing 0x38 or 0x39 performs no transaction and changes nothing but the fault latch, which
records the opcode; in the state it leaves, the core makes no step (the model answers the fault coreFaulted,
log 7). -/
def Obligations.UnimplementedOpcodesLatchTheFault : Prop :=
  ∀ s : State,
    encode .unimpl_inm = [0x38#8] ∧ encode .unimpl_dcm = [0x39#8] ∧
    exec .unimpl_inm s = .next { s with fault := .unimplementedOpcode 0x38#8 } ∧
    exec .unimpl_dcm s = .next { s with fault := .unimplementedOpcode 0x39#8 } ∧
    coreStep { s with fault := .unimplementedOpcode 0x38#8 } = .fault (.coreFaulted 0x38#8) ∧
    coreStep { s with fault := .unimplementedOpcode 0x39#8 } = .fault (.coreFaulted 0x39#8)

/-- RLC, RRC, RAL, RAR: whole next state; only A and carry change (stated: R180, R181, R182, R183). Each rotate,
whatever its ignored opcode bit, executes to the state after T4 driving the old A and T5 driving the new A,
with A rotated one place (the through-carry forms taking the old carry into the vacated bit), carry the bit
rotated out, and zero, sign, parity and everything else unchanged. -/
def Obligations.RotatesMoveAAndCarryOnly : Prop :=
  ∀ (x : BitVec 1) (s : State),
    let a := s.regs.a
    let cin : Byte := if s.flags.c then 1 else 0
    (encode (.rlc x) = [0b00#2 ++ x ++ 0b00#2 ++ 0b010#3] ∧
      exec (.rlc x) s =
        .next
          { s.perform [s.silent 0 .t4 a, s.silent 1 .t5 (a.rotateLeft 1)] with
            regs := s.regs.set .a (a.rotateLeft 1)
            flags := ⟨a.msb, s.flags.z, s.flags.s, s.flags.p⟩ }) ∧
    (encode (.rrc x) = [0b00#2 ++ x ++ 0b01#2 ++ 0b010#3] ∧
      exec (.rrc x) s =
        .next
          { s.perform [s.silent 0 .t4 a, s.silent 1 .t5 (a.rotateRight 1)] with
            regs := s.regs.set .a (a.rotateRight 1)
            flags := ⟨a[0], s.flags.z, s.flags.s, s.flags.p⟩ }) ∧
    (encode (.ral x) = [0b00#2 ++ x ++ 0b10#2 ++ 0b010#3] ∧
      exec (.ral x) s =
        .next
          { s.perform [s.silent 0 .t4 a, s.silent 1 .t5 ((a <<< 1) ||| cin)] with
            regs := s.regs.set .a ((a <<< 1) ||| cin)
            flags := ⟨a.msb, s.flags.z, s.flags.s, s.flags.p⟩ }) ∧
    (encode (.rar x) = [0b00#2 ++ x ++ 0b11#2 ++ 0b010#3] ∧
      exec (.rar x) s =
        .next
          { s.perform [s.silent 0 .t4 a, s.silent 1 .t5 ((a >>> 1) ||| (cin <<< 7))] with
            regs := s.regs.set .a ((a >>> 1) ||| (cin <<< 7))
            flags := ⟨a[0], s.flags.z, s.flags.s, s.flags.p⟩ })

/-- Eight circular rotates restore A; nine rotates through carry restore A and carry (derived: R180, R181, R182,
R183). From every state, eight RLC or eight RRC leave A as it was, and nine RAL or nine RAR leave A and carry
as they were; in all four cases every register and the flags zero, sign and parity are as before. -/
def Obligations.EightAndNineRotatesRestore : Prop :=
  ∀ (x : BitVec 1) (s : State),
    (∃ t, execTimes 8 (.rlc x) s = .next t ∧ t.regs = s.regs ∧
      t.flags.z = s.flags.z ∧ t.flags.s = s.flags.s ∧ t.flags.p = s.flags.p) ∧
    (∃ t, execTimes 8 (.rrc x) s = .next t ∧ t.regs = s.regs ∧
      t.flags.z = s.flags.z ∧ t.flags.s = s.flags.s ∧ t.flags.p = s.flags.p) ∧
    (∃ t, execTimes 9 (.ral x) s = .next t ∧ t.regs = s.regs ∧ t.flags = s.flags) ∧
    (∃ t, execTimes 9 (.rar x) s = .next t ∧ t.regs = s.regs ∧ t.flags = s.flags)

/-- JMP: whole next state after its address bytes are fetched (derived: R89, R191). JMP, encoded 01 xxx 100 with
its two address bytes, executes to the state after T4 driving the high byte modulo 64 and T5 driving the low
byte, with the current stack slot holding the 14-bit target and nothing else changed: pc is the target. -/
def Obligations.JumpGoesToTarget : Prop :=
  ∀ (x : BitVec 3) (lo hi : Byte) (s : State),
    encode (.jmp x lo hi) = [0b01#2 ++ x ++ 0b100#3, lo, hi] ∧
    ∃ t, exec (.jmp x lo hi) s = .next t ∧ t.pc = BitVec.ofNat 14 (targetNat lo hi) ∧
      t = { s.perform [s.silent 0 .t4 (BitVec.ofNat 8 (hi.toNat % 64)), s.silent 1 .t5 lo] with
              stack := s.stack.set s.sp.toNat (BitVec.ofNat 16 (targetNat lo hi)) s.sp.isLt }

/-- JF c and JT c: all 8 conditional jumps, whole next state (derived: R107, R192, R193). A conditional jump,
encoded 01 TCC 000, whose flag equals its sense executes as a jump to its target; otherwise its address bytes
have been fetched and nothing further happens: the state is unchanged. -/
def Obligations.ConditionalJumpsFollowTheirFlag : Prop :=
  ∀ (sense : Bool) (cc : Condition) (lo hi : Byte) (s : State),
    encode (jumpIfInstr sense cc lo hi) = [0b01#2 ++ BitVec.ofBool sense ++ cc.bits ++ 0b000#3, lo, hi] ∧
    exec (jumpIfInstr sense cc lo hi) s =
      .next
        (if s.flags.select cc = sense then
          { s.perform [s.silent 0 .t4 (BitVec.ofNat 8 (hi.toNat % 64)), s.silent 1 .t5 lo] with
            stack := s.stack.set s.sp.toNat (BitVec.ofNat 16 (targetNat lo hi)) s.sp.isLt }
        else s)

/-- CAL: whole next state; the slot left behind keeps the return address (derived: R26, R194). CAL, encoded 01 xxx
110, executes to the state after T4 and T5 driving the target, with the index advanced modulo 8 and the new
current slot holding the 14-bit target; every other slot, among them the one left behind with the return
address, and everything else is unchanged. -/
def Obligations.CallPushesTarget : Prop :=
  ∀ (x : BitVec 3) (lo hi : Byte) (s : State),
    encode (.cal x lo hi) = [0b01#2 ++ x ++ 0b110#3, lo, hi] ∧
    ∃ t, exec (.cal x lo hi) s = .next t ∧ t.pc = BitVec.ofNat 14 (targetNat lo hi) ∧
      (∀ k : BitVec 3, k ≠ s.sp + 1 → t.slot k = s.slot k) ∧
      t = { s.perform [s.silent 0 .t4 (BitVec.ofNat 8 (hi.toNat % 64)), s.silent 1 .t5 lo] with
              sp := s.sp + 1
              stack := s.stack.set (s.sp + 1).toNat (BitVec.ofNat 16 (targetNat lo hi)) (s.sp + 1).isLt }

/-- CF c and CT c: all 8 conditional calls, whole next state (derived: R107, R195, R196). A conditional call,
encoded 01 TCC 010, whose flag equals its sense executes as a call of its target; otherwise nothing further
happens: the state is unchanged. -/
def Obligations.ConditionalCallsFollowTheirFlag : Prop :=
  ∀ (sense : Bool) (cc : Condition) (lo hi : Byte) (s : State),
    encode (callIfInstr sense cc lo hi) = [0b01#2 ++ BitVec.ofBool sense ++ cc.bits ++ 0b010#3, lo, hi] ∧
    exec (callIfInstr sense cc lo hi) s =
      .next
        (if s.flags.select cc = sense then
          { s.perform [s.silent 0 .t4 (BitVec.ofNat 8 (hi.toNat % 64)), s.silent 1 .t5 lo] with
            sp := s.sp + 1
            stack := s.stack.set (s.sp + 1).toNat (BitVec.ofNat 16 (targetNat lo hi)) (s.sp + 1).isLt }
        else s)

/-- RET: whole next state; only the index changes (stated: R200). RET, encoded 00 xxx 111, executes to the state
after T4 and T5 driving the new pc, with the index retreated modulo 8 and no slot, register, flag or byte of
memory changed: pc is the slot below. -/
def Obligations.ReturnRetreatsTheIndex : Prop :=
  ∀ (x : BitVec 3) (s : State),
    encode (.ret x) = [0b00#2 ++ x ++ 0b111#3] ∧
    exec (.ret x) s =
      .next
        ({ s.perform [s.silent 0 .t4 (0b00#2 ++ (s.slot (s.sp - 1)).extractLsb' 8 6),
                s.silent 1 .t5 ((s.slot (s.sp - 1)).extractLsb' 0 8)] with
            sp := s.sp - 1 })

/-- RF c and RT c: all 8 conditional returns, whole next state (stated: R201, R202). A conditional return, encoded
00 TCC 011, whose flag equals its sense executes as a return; otherwise it changes nothing. -/
def Obligations.ConditionalReturnsFollowTheirFlag : Prop :=
  ∀ (sense : Bool) (cc : Condition) (s : State),
    encode (returnIfInstr sense cc) = [0b00#2 ++ BitVec.ofBool sense ++ cc.bits ++ 0b011#3] ∧
    exec (returnIfInstr sense cc) s =
      .next
        (if s.flags.select cc = sense then
          { s.perform [s.silent 0 .t4 (0b00#2 ++ (s.slot (s.sp - 1)).extractLsb' 8 6),
                s.silent 1 .t5 ((s.slot (s.sp - 1)).extractLsb' 0 8)] with
            sp := s.sp - 1 }
        else s)

/-- RST n: all 8 restarts, whole next state (stated: R203). RST n, encoded 00 aaa 101, executes to the state after
T4 driving 0x00 and T5 driving 8n, with the index advanced modulo 8 and the new current slot holding 8n; every
other slot and everything else is unchanged, so that a RET then resumes at the address that was pc. -/
def Obligations.RestartPushesItsVector : Prop :=
  ∀ (n : BitVec 3) (s : State),
    encode (rstInstr n) = [0b00#2 ++ n ++ 0b101#3] ∧
    exec (rstInstr n) s =
      .next
        { s.perform [s.silent 0 .t4 0x00#8, s.silent 1 .t5 (BitVec.ofNat 8 (8 * n.toNat))] with
          sp := s.sp + 1
          stack := s.stack.set (s.sp + 1).toNat (BitVec.ofNat 16 (8 * n.toNat)) (s.sp + 1).isLt } ∧
    ∀ (x : BitVec 3) (t u : State), exec (rstInstr n) s = .next t → exec (.ret x) t = .next u → u.sp = s.sp ∧ u.pc = s.pc

/-- A call and then a return come back to the return address with registers, flags and memory as they were
(derived: R26, R194, R200, R204). From every state, CAL followed by RET leaves sp and pc as they were when the
call executed (pc past its address bytes), registers, flags and memory unchanged, and every slot but the one
the call wrote unchanged. -/
def Obligations.CallThenReturnComesBack : Prop :=
  ∀ (x y : BitVec 3) (lo hi : Byte) (s : State),
    ∃ t u, exec (.cal x lo hi) s = .next t ∧ exec (.ret y) t = .next u ∧ u.sp = s.sp ∧ u.pc = s.pc ∧
      u.regs = s.regs ∧ u.flags = s.flags ∧ u.mem = s.mem ∧ ∀ k : BitVec 3, k ≠ s.sp + 1 → u.slot k = s.slot k

/-- Nested pushes: the index counts them modulo 8, up to 7 keep the oldest address, the 8th overwrites it
(derived: R26, R264). After pushing any list of addresses the index has advanced by its length modulo 8; if
the list has at most 7 addresses the slot that was current keeps its value; if it has exactly 8 the index is
back where it was and that slot holds the eighth address. -/
def Obligations.NestedPushesWrapAtEight : Prop :=
  ∀ (s : State) (as : List Address),
    (s.pushAll as).sp = s.sp + BitVec.ofNat 3 as.length ∧
    (as.length ≤ 7 → (s.pushAll as).slot s.sp = s.slot s.sp) ∧
    (∀ a : Address, as.length = 7 →
      (s.pushAll (as ++ [a])).sp = s.sp ∧ (s.pushAll (as ++ [a])).slot s.sp = a.zeroExtend 16)

/-- An interrupt-forced RST n saves exactly the interrupted address, and a RET resumes there (derived: R101, R203,
R236, R237). In a RUNNING, unfaulted state with interrupt_request 1 and the core's turn next, scheduled or not
(log 5), whose environment forces RST n, the step answers a next state with pc = 8n, the index advanced, the
interrupted slot unchanged, interrupt_cycle 0, registers, flags and memory unchanged, and interrupt_request 1
only if requested again during the step; a RET executed there gives back pc and sp. -/
def Obligations.ForcedRestartSavesInterruptedAddress : Prop :=
  ∀ (s : State) (n : BitVec 3),
    s.coresTurn = true → s.fault = .none → s.run = .running → s.interruptRequest = true →
    s.forcedOpcode = 0b00#2 ++ n ++ 0b101#3 →
      ∃ t, step s = .next t ∧ t.pc = BitVec.ofNat 14 (8 * n.toNat) ∧ t.sp = s.sp + 1 ∧ t.slot s.sp = s.slot s.sp ∧
        t.interruptCycle = false ∧ t.interruptRequest = (s.script.take 5).any Reply.request ∧
        t.regs = s.regs ∧ t.flags = s.flags ∧ t.mem = s.mem ∧
        ∀ (x : BitVec 3) (u : State), exec (.ret x) t = .next u → u.pc = s.pc ∧ u.sp = s.sp

/-- INP p: all 8 inputs, whole next state (derived: R210, R212). For every port 0 to 7, INP is encoded 01 00m mm1
and executes to the state after T1 driving A, T2 driving the opcode byte, T3 reading the environment's answer,
T4 driving the flag byte (sign, zero, parity, carry in bits 0 to 3) and T5 driving the answer, with A holding
the answer; no flag and nothing else changes. Where the script gives no answer the byte is a free value: the
statement holds for every value of it (log 3). -/
def Obligations.InputReadsPortIntoA : Prop :=
  ∀ (p : BitVec 3) (s : State),
    let v := s.answerAt 2 (Config.freeInput (s.trace.length + 2))
    encode (ioInstr (0b00#2 ++ p)) = [0b0100#4 ++ p ++ 0b1#1] ∧
    exec (ioInstr (0b00#2 ++ p)) s =
      .next
        { s.perform [s.silent 0 .t1 s.regs.a, s.silent 1 .t2 (0b0100#4 ++ p ++ 0b1#1), ⟨.t3, 0x00#8, v⟩,
            s.silent 3 .t4
              (BitVec.ofNat 8 (s.flags.s.toNat + 2 * s.flags.z.toNat + 4 * s.flags.p.toNat + 8 * s.flags.c.toNat)),
            s.silent 4 .t5 v] with
          regs := s.regs.set .a v }

/-- OUT p: all 24 outputs, whole next state (stated: R211). For every port 8 to 31, OUT is encoded 01 rrm mm1 and
executes to the state after T1 driving A, T2 driving the opcode byte and WAIT driving A; no register, flag,
stack slot or byte of memory changes. -/
def Obligations.OutputDrivesAOnly : Prop :=
  ∀ (p : BitVec 5) (s : State), 8 ≤ p.toNat →
    encode (ioInstr p) = [0b01#2 ++ p ++ 0b1#1] ∧
    exec (ioInstr p) s =
      .next (s.perform [s.silent 0 .t1 s.regs.a, s.silent 1 .t2 (0b01#2 ++ p ++ 0b1#1), s.silent 2 .wait s.regs.a])

/-- HLT: whole next state, for all three encodings (stated: R220, R221). HLT, whichever of its three opcode bytes
0x00, 0x01, 0xFF encodes it, executes to the state after one STOPPED transaction driving 0x00, STOPPED, or
RUNNING if interrupt_request is 1 after that transaction; no register, flag, stack slot or byte of memory
changes. -/
def Obligations.HaltStopsAndPolls : Prop :=
  decode [0x00#8] = .ok (.hlt 0x00#8, []) ∧ decode [0x01#8] = .ok (.hlt 0x01#8, []) ∧ decode [0xFF#8] = .ok (.hlt 0xFF#8, []) ∧
  ∀ (op : Byte) (s : State),
    encode (.hlt op) = [op] ∧
    exec (.hlt op) s =
      .next { s.perform [s.silent 0 .stopped 0x00#8] with run := if s.latchAfter 1 then .running else .stopped }

/-- Every step keeps: memory is the first memory with every write cycle of the trace written into it, in order
(derived: R8, R61, R66, R74). For every first memory m0 and every state whose memory is m0 after every write
cycle of its trace, a step that answers a next state answers one of which the same holds: no transaction but a
data-write cycle writes, whoever moves and whatever is fetched, forced, polled, requested or reset, and no
write cycle of the trace fails to write (that every write reaches one array that all cycle types share is the
model's, logs 17 and 21). -/
def Obligations.MemoryIsWhatTheTraceWrote : Prop :=
  ∀ (m0 : Memory) (s t : State), s.mem = m0.replay s.trace → step s = .next t → t.mem = m0.replay t.trace

/-- In the reset state memory is what the trace has written into an empty memory (derived: R52, R260). In the
model's State.reset (log 15) the memory is the empty list of log 1 after the write cycles of the trace, which
is the one STOPPED transaction of the reset. -/
def Obligations.ResetMemoryIsWhatTheTraceWrote : Prop :=
  State.reset.mem = Memory.replay [] State.reset.trace

/-- From any state, a reset with a request in its STOPPED transaction and a forced RST n start the program at 8n
(derived: R54, R203, R260, R262). Whatever the state, faulted or not, when the environment resets the core,
requests an interrupt inside the reset's STOPPED transaction, leaves the next turn to the core (log 5) and
forces RST n, two steps lead to pc = 8n, sp = 1, stack[0] = 0x0000, RUNNING, registers and flags 0, memory
untouched, with exactly the cold-start trace STOPPED(00) T1I(00) T2(00) T3(00) T4(00) T5(8n) added. -/
def Obligations.ColdStartFromAnyState : Prop :=
  ∀ (s : State) (n : BitVec 3) (rest : List Turn),
    s.schedule = .reset :: rest → State.coresTurn { s with schedule := rest } = true → (s.replyAt 0).request = true →
    s.answerAt 3 (Config.freeOpcode (s.trace.length + 3)) = 0b00#2 ++ n ++ 0b101#3 →
      ∃ t u, step s = .next t ∧ step t = .next u ∧ u.pc = BitVec.ofNat 14 (8 * n.toNat) ∧ u.sp = 1#3 ∧
        u.slot 0#3 = 0x0000#16 ∧ u.run = .running ∧ u.interruptCycle = false ∧
        u.interruptRequest = ((s.script.drop 1).take 5).any Reply.request ∧
        u.regs = ⟨0, 0, 0, 0, 0, 0, 0⟩ ∧ u.flags = ⟨false, false, false, false⟩ ∧ u.mem = s.mem ∧ u.fault = .none ∧
        u.trace = s.trace ++
          [s.silent 0 .stopped 0x00#8, s.silent 1 .t1I 0x00#8, s.silent 2 .t2 0x00#8,
            ⟨.t3, 0x00#8, 0b00#2 ++ n ++ 0b101#3⟩, s.silent 4 .t4 0x00#8, s.silent 5 .t5 (BitVec.ofNat 8 (8 * n.toNat))]
end

