-- ==== Sys2Proof/Laws/Families.lean ====
section
/-! SUPPORT. Every instruction is one of the families of Decode.lean: the case split that a proof over all
instructions makes once, instead of one case per constructor. -/

namespace Sys2Proof.Laws

/-- The families, each with the fields that pick the instruction. -/
inductive Family : Instr → Prop
  | load (dst src : Reg) : Family (loadInstr dst src)
  | loadMem (dst : Reg) : Family (loadMemInstr dst)
  | store (src : Reg) : Family (storeInstr src)
  | loadImm (dst : Reg) (imm : Byte) : Family (loadImmInstr dst imm)
  | storeImm (imm : Byte) : Family (.lmi imm)
  | aluReg (op : AluOp) (r : Reg) : Family (aluRegInstr op r)
  | aluMem (op : AluOp) : Family (aluMemInstr op)
  | aluImm (op : AluOp) (imm : Byte) : Family (aluImmInstr op imm)
  | inc (r : Reg) (h : r ≠ .a) : Family (incInstr r 0)
  | dec (r : Reg) (h : r ≠ .a) : Family (decInstr r 0)
  | unimplInc : Family .unimpl_inm
  | unimplDec : Family .unimpl_dcm
  | rotate (op : RotateOp) (x : BitVec 1) : Family (rotateInstr op x)
  | jmp (x : BitVec 3) (lo hi : Byte) : Family (.jmp x lo hi)
  | jumpIf (t : Bool) (cc : Condition) (lo hi : Byte) : Family (jumpIfInstr t cc lo hi)
  | cal (x : BitVec 3) (lo hi : Byte) : Family (.cal x lo hi)
  | callIf (t : Bool) (cc : Condition) (lo hi : Byte) : Family (callIfInstr t cc lo hi)
  | ret (x : BitVec 3) : Family (.ret x)
  | returnIf (t : Bool) (cc : Condition) : Family (returnIfInstr t cc)
  | rst (n : BitVec 3) : Family (rstInstr n)
  | io (p : BitVec 5) : Family (ioInstr p)
  | hlt (op : Byte) : Family (.hlt op)

/-- A bit vector is a numeral below `2 ^ w`: with `interval_cases` on the numeral, a split into its values. -/
theorem exists_ofNat {w : Nat} (x : BitVec w) : ∃ k, k < 2 ^ w ∧ x = BitVec.ofNat w k := ⟨x.toNat, x.isLt, by simp⟩

/-- Every instruction is in a family. -/
theorem family : (i : Instr) → Family i
  | .laa => .load .a .a
  | .lab => .load .a .b
  | .lac => .load .a .c
  | .lad => .load .a .d
  | .lae => .load .a .e
  | .lah => .load .a .h
  | .lal => .load .a .l
  | .lba => .load .b .a
  | .lbb => .load .b .b
  | .lbc => .load .b .c
  | .lbd => .load .b .d
  | .lbe => .load .b .e
  | .lbh => .load .b .h
  | .lbl => .load .b .l
  | .lca => .load .c .a
  | .lcb => .load .c .b
  | .lcc => .load .c .c
  | .lcd => .load .c .d
  | .lce => .load .c .e
  | .lch => .load .c .h
  | .lcl => .load .c .l
  | .lda => .load .d .a
  | .ldb => .load .d .b
  | .ldc => .load .d .c
  | .ldd => .load .d .d
  | .lde => .load .d .e
  | .ldh => .load .d .h
  | .ldl => .load .d .l
  | .lea => .load .e .a
  | .leb => .load .e .b
  | .lec => .load .e .c
  | .led => .load .e .d
  | .lee => .load .e .e
  | .leh => .load .e .h
  | .lel => .load .e .l
  | .lha => .load .h .a
  | .lhb => .load .h .b
  | .lhc => .load .h .c
  | .lhd => .load .h .d
  | .lhe => .load .h .e
  | .lhh => .load .h .h
  | .lhl => .load .h .l
  | .lla => .load .l .a
  | .llb => .load .l .b
  | .llc => .load .l .c
  | .lld => .load .l .d
  | .lle => .load .l .e
  | .llh => .load .l .h
  | .lll => .load .l .l
  | .lam => .loadMem .a
  | .lbm => .loadMem .b
  | .lcm => .loadMem .c
  | .ldm => .loadMem .d
  | .lem => .loadMem .e
  | .lhm => .loadMem .h
  | .llm => .loadMem .l
  | .lma => .store .a
  | .lmb => .store .b
  | .lmc => .store .c
  | .lmd => .store .d
  | .lme => .store .e
  | .lmh => .store .h
  | .lml => .store .l
  | .lai imm => .loadImm .a imm
  | .lbi imm => .loadImm .b imm
  | .lci imm => .loadImm .c imm
  | .ldi imm => .loadImm .d imm
  | .lei imm => .loadImm .e imm
  | .lhi imm => .loadImm .h imm
  | .lli imm => .loadImm .l imm
  | .lmi imm => .storeImm imm
  | .ada => .aluReg .add .a
  | .adb => .aluReg .add .b
  | .adc => .aluReg .add .c
  | .add => .aluReg .add .d
  | .ade => .aluReg .add .e
  | .adh => .aluReg .add .h
  | .adl => .aluReg .add .l
  | .adm => .aluMem .add
  | .adi imm => .aluImm .add imm
  | .aca => .aluReg .addCarry .a
  | .acb => .aluReg .addCarry .b
  | .acc => .aluReg .addCarry .c
  | .acd => .aluReg .addCarry .d
  | .ace => .aluReg .addCarry .e
  | .ach => .aluReg .addCarry .h
  | .acl => .aluReg .addCarry .l
  | .acm => .aluMem .addCarry
  | .aci imm => .aluImm .addCarry imm
  | .sua => .aluReg .sub .a
  | .sub => .aluReg .sub .b
  | .suc => .aluReg .sub .c
  | .sud => .aluReg .sub .d
  | .sue => .aluReg .sub .e
  | .suh => .aluReg .sub .h
  | .sul => .aluReg .sub .l
  | .sum => .aluMem .sub
  | .sui imm => .aluImm .sub imm
  | .sba => .aluReg .subBorrow .a
  | .sbb => .aluReg .subBorrow .b
  | .sbc => .aluReg .subBorrow .c
  | .sbd => .aluReg .subBorrow .d
  | .sbe => .aluReg .subBorrow .e
  | .sbh => .aluReg .subBorrow .h
  | .sbl => .aluReg .subBorrow .l
  | .sbm => .aluMem .subBorrow
  | .sbi imm => .aluImm .subBorrow imm
  | .nda => .aluReg .and .a
  | .ndb => .aluReg .and .b
  | .ndc => .aluReg .and .c
  | .ndd => .aluReg .and .d
  | .nde => .aluReg .and .e
  | .ndh => .aluReg .and .h
  | .ndl => .aluReg .and .l
  | .ndm => .aluMem .and
  | .ndi imm => .aluImm .and imm
  | .xra => .aluReg .xor .a
  | .xrb => .aluReg .xor .b
  | .xrc => .aluReg .xor .c
  | .xrd => .aluReg .xor .d
  | .xre => .aluReg .xor .e
  | .xrh => .aluReg .xor .h
  | .xrl => .aluReg .xor .l
  | .xrm => .aluMem .xor
  | .xri imm => .aluImm .xor imm
  | .ora => .aluReg .or .a
  | .orb => .aluReg .or .b
  | .orc => .aluReg .or .c
  | .ord => .aluReg .or .d
  | .ore => .aluReg .or .e
  | .orh => .aluReg .or .h
  | .orl => .aluReg .or .l
  | .orm => .aluMem .or
  | .ori imm => .aluImm .or imm
  | .cpa => .aluReg .compare .a
  | .cpb => .aluReg .compare .b
  | .cpc => .aluReg .compare .c
  | .cpd => .aluReg .compare .d
  | .cpe => .aluReg .compare .e
  | .cph => .aluReg .compare .h
  | .cpl => .aluReg .compare .l
  | .cpm => .aluMem .compare
  | .cpi imm => .aluImm .compare imm
  | .inb => .inc .b nofun
  | .inc => .inc .c nofun
  | .ind => .inc .d nofun
  | .ine => .inc .e nofun
  | .inh => .inc .h nofun
  | .inl => .inc .l nofun
  | .dcb => .dec .b nofun
  | .dcc => .dec .c nofun
  | .dcd => .dec .d nofun
  | .dce => .dec .e nofun
  | .dch => .dec .h nofun
  | .dcl => .dec .l nofun
  | .unimpl_inm => .unimplInc
  | .unimpl_dcm => .unimplDec
  | .rlc x => .rotate .leftCircular x
  | .rrc x => .rotate .rightCircular x
  | .ral x => .rotate .leftThroughCarry x
  | .rar x => .rotate .rightThroughCarry x
  | .jmp x lo hi => .jmp x lo hi
  | .jfc lo hi => .jumpIf false .carry lo hi
  | .jfz lo hi => .jumpIf false .zero lo hi
  | .jfs lo hi => .jumpIf false .sign lo hi
  | .jfp lo hi => .jumpIf false .parity lo hi
  | .jtc lo hi => .jumpIf true .carry lo hi
  | .jtz lo hi => .jumpIf true .zero lo hi
  | .jts lo hi => .jumpIf true .sign lo hi
  | .jtp lo hi => .jumpIf true .parity lo hi
  | .cal x lo hi => .cal x lo hi
  | .cfc lo hi => .callIf false .carry lo hi
  | .cfz lo hi => .callIf false .zero lo hi
  | .cfs lo hi => .callIf false .sign lo hi
  | .cfp lo hi => .callIf false .parity lo hi
  | .ctc lo hi => .callIf true .carry lo hi
  | .ctz lo hi => .callIf true .zero lo hi
  | .cts lo hi => .callIf true .sign lo hi
  | .ctp lo hi => .callIf true .parity lo hi
  | .ret x => .ret x
  | .rfc => .returnIf false .carry
  | .rfz => .returnIf false .zero
  | .rfs => .returnIf false .sign
  | .rfp => .returnIf false .parity
  | .rtc => .returnIf true .carry
  | .rtz => .returnIf true .zero
  | .rts => .returnIf true .sign
  | .rtp => .returnIf true .parity
  | .rst_0 => .rst 0#3
  | .rst_1 => .rst 1#3
  | .rst_2 => .rst 2#3
  | .rst_3 => .rst 3#3
  | .rst_4 => .rst 4#3
  | .rst_5 => .rst 5#3
  | .rst_6 => .rst 6#3
  | .rst_7 => .rst 7#3
  | .inp_0 => .io 0#5
  | .inp_1 => .io 1#5
  | .inp_2 => .io 2#5
  | .inp_3 => .io 3#5
  | .inp_4 => .io 4#5
  | .inp_5 => .io 5#5
  | .inp_6 => .io 6#5
  | .inp_7 => .io 7#5
  | .out_8 => .io 8#5
  | .out_9 => .io 9#5
  | .out_10 => .io 10#5
  | .out_11 => .io 11#5
  | .out_12 => .io 12#5
  | .out_13 => .io 13#5
  | .out_14 => .io 14#5
  | .out_15 => .io 15#5
  | .out_16 => .io 16#5
  | .out_17 => .io 17#5
  | .out_18 => .io 18#5
  | .out_19 => .io 19#5
  | .out_20 => .io 20#5
  | .out_21 => .io 21#5
  | .out_22 => .io 22#5
  | .out_23 => .io 23#5
  | .out_24 => .io 24#5
  | .out_25 => .io 25#5
  | .out_26 => .io 26#5
  | .out_27 => .io 27#5
  | .out_28 => .io 28#5
  | .out_29 => .io 29#5
  | .out_30 => .io 30#5
  | .out_31 => .io 31#5
  | .hlt op => .hlt op

end Sys2Proof.Laws
end

