-- ==== Sys2Proof/Laws/Memory.lean ====
section
/-! SUPPORT. The memory operations: reading past a bound, and that writing keeps the canonical form. -/

namespace Sys2Proof.Machine

@[simp] theorem Memory.readAt_nil (a : Nat) : Memory.readAt [] a = unlistedByte := rfl

theorem Memory.readAt_cons (x : Nat) (v : Byte) (m : Memory) (a : Nat) :
    Memory.readAt ((x, v) :: m) a = if x = a then v else m.readAt a := rfl

theorem Memory.writeAt_cons (x : Nat) (v : Byte) (m : Memory) (a : Nat) (b : Byte) :
    Memory.writeAt ((x, v) :: m) a b =
      if a < x then Memory.consCell a b ((x, v) :: m)
      else if a = x then Memory.consCell a b m else (x, v) :: m.writeAt a b := rfl

/-- The canonical form above a bound, one cell at a time. -/
theorem Memory.wfFrom_cons (lo x : Nat) (v : Byte) (m : Memory) :
    Memory.wfFrom lo ((x, v) :: m) = true ↔ lo ≤ x ∧ x < 2 ^ 14 ∧ v ≠ unlistedByte ∧ Memory.wfFrom (x + 1) m = true := by
  simp [Memory.wfFrom, and_assoc]

/-- A lower bound may be lowered. -/
theorem Memory.wfFrom_mono {lo lo' : Nat} (h : lo' ≤ lo) : ∀ {m : Memory}, Memory.wfFrom lo m = true → Memory.wfFrom lo' m = true
  | [], _ => rfl
  | (_, _) :: _, hm => by
    rw [Memory.wfFrom_cons] at hm ⊢
    exact ⟨h.trans hm.1, hm.2⟩

/-- An address below the bound is not listed. -/
theorem Memory.readAt_below {a : Nat} : ∀ {lo : Nat} {m : Memory}, Memory.wfFrom lo m = true → a < lo → m.readAt a = unlistedByte
  | _, [], _, _ => rfl
  | lo, (x, v) :: m, hm, ha => by
    rw [Memory.wfFrom_cons] at hm
    rw [Memory.readAt_cons, if_neg (by omega)]
    exact Memory.readAt_below hm.2.2.2 (by omega)

/-- Putting a cell in front keeps the canonical form. -/
theorem Memory.consCell_wfFrom {lo a : Nat} {b : Byte} {m : Memory} (hl : lo ≤ a) (ha : a < 2 ^ 14)
    (hm : Memory.wfFrom (a + 1) m = true) : Memory.wfFrom lo (Memory.consCell a b m) = true := by
  unfold Memory.consCell
  split
  · exact Memory.wfFrom_mono (by omega) hm
  · rename_i hb
    exact (Memory.wfFrom_cons ..).2 ⟨hl, ha, hb, hm⟩

/-- Writing keeps the canonical form above a bound. -/
theorem Memory.writeAt_wfFrom {a : Nat} {b : Byte} (ha : a < 2 ^ 14) :
    ∀ {lo : Nat} {m : Memory}, lo ≤ a → Memory.wfFrom lo m = true → Memory.wfFrom lo (m.writeAt a b) = true
  | _, [], hl, _ => Memory.consCell_wfFrom hl ha rfl
  | lo, (x, v) :: m, hl, hm => by
    rw [Memory.wfFrom_cons] at hm
    obtain ⟨h1, h2, h3, h4⟩ := hm
    rw [Memory.writeAt_cons]
    split
    · exact Memory.consCell_wfFrom hl ha ((Memory.wfFrom_cons ..).2 ⟨by omega, h2, h3, h4⟩)
    · split
      · rename_i h; subst h; exact Memory.consCell_wfFrom hl ha h4
      · exact (Memory.wfFrom_cons ..).2 ⟨h1, h2, h3, Memory.writeAt_wfFrom ha (by omega) h4⟩

/-- Every write keeps the canonical form. -/
theorem Memory.write_wf {m : Memory} (a : Address) (b : Byte) (h : m.wf = true) : (m.write a b).wf = true :=
  Memory.writeAt_wfFrom a.isLt (Nat.zero_le _) h

end Sys2Proof.Machine
end

