-- ==== Sys2Proof/Laws/State.lean ====
section
/-! SUPPORT. The state record: one lemma per field per update, each true by rfl. An update that is a run of
transactions is first brought to the form `perform` (Laws/Ops.lean). -/

namespace Sys2Proof.Machine

@[simp] theorem State.setReg_regs (s : State) (i : Reg) (v : Byte) : (s.setReg i v).regs = s.regs.set i v := rfl
@[simp] theorem State.setReg_flags (s : State) (i : Reg) (v : Byte) : (s.setReg i v).flags = s.flags := rfl
@[simp] theorem State.setReg_stack (s : State) (i : Reg) (v : Byte) : (s.setReg i v).stack = s.stack := rfl
@[simp] theorem State.setReg_sp (s : State) (i : Reg) (v : Byte) : (s.setReg i v).sp = s.sp := rfl
@[simp] theorem State.setReg_interruptRequest (s : State) (i : Reg) (v : Byte) : (s.setReg i v).interruptRequest = s.interruptRequest := rfl
@[simp] theorem State.setReg_interruptCycle (s : State) (i : Reg) (v : Byte) : (s.setReg i v).interruptCycle = s.interruptCycle := rfl
@[simp] theorem State.setReg_run (s : State) (i : Reg) (v : Byte) : (s.setReg i v).run = s.run := rfl
@[simp] theorem State.setReg_fault (s : State) (i : Reg) (v : Byte) : (s.setReg i v).fault = s.fault := rfl
@[simp] theorem State.setReg_mem (s : State) (i : Reg) (v : Byte) : (s.setReg i v).mem = s.mem := rfl
@[simp] theorem State.setReg_script (s : State) (i : Reg) (v : Byte) : (s.setReg i v).script = s.script := rfl
@[simp] theorem State.setReg_schedule (s : State) (i : Reg) (v : Byte) : (s.setReg i v).schedule = s.schedule := rfl
@[simp] theorem State.setReg_trace (s : State) (i : Reg) (v : Byte) : (s.setReg i v).trace = s.trace := rfl

@[simp] theorem State.setFlags_regs (s : State) (f : Flags) : (s.setFlags f).regs = s.regs := rfl
@[simp] theorem State.setFlags_flags (s : State) (f : Flags) : (s.setFlags f).flags = f := rfl
@[simp] theorem State.setFlags_stack (s : State) (f : Flags) : (s.setFlags f).stack = s.stack := rfl
@[simp] theorem State.setFlags_sp (s : State) (f : Flags) : (s.setFlags f).sp = s.sp := rfl
@[simp] theorem State.setFlags_interruptRequest (s : State) (f : Flags) : (s.setFlags f).interruptRequest = s.interruptRequest := rfl
@[simp] theorem State.setFlags_interruptCycle (s : State) (f : Flags) : (s.setFlags f).interruptCycle = s.interruptCycle := rfl
@[simp] theorem State.setFlags_run (s : State) (f : Flags) : (s.setFlags f).run = s.run := rfl
@[simp] theorem State.setFlags_fault (s : State) (f : Flags) : (s.setFlags f).fault = s.fault := rfl
@[simp] theorem State.setFlags_mem (s : State) (f : Flags) : (s.setFlags f).mem = s.mem := rfl
@[simp] theorem State.setFlags_script (s : State) (f : Flags) : (s.setFlags f).script = s.script := rfl
@[simp] theorem State.setFlags_schedule (s : State) (f : Flags) : (s.setFlags f).schedule = s.schedule := rfl
@[simp] theorem State.setFlags_trace (s : State) (f : Flags) : (s.setFlags f).trace = s.trace := rfl

@[simp] theorem State.setSlot_regs (s : State) (k : BitVec 3) (a : Address) : (s.setSlot k a).regs = s.regs := rfl
@[simp] theorem State.setSlot_flags (s : State) (k : BitVec 3) (a : Address) : (s.setSlot k a).flags = s.flags := rfl
@[simp] theorem State.setSlot_stack (s : State) (k : BitVec 3) (a : Address) : (s.setSlot k a).stack = s.stack.set k.toNat (a.zeroExtend 16) k.isLt := rfl
@[simp] theorem State.setSlot_sp (s : State) (k : BitVec 3) (a : Address) : (s.setSlot k a).sp = s.sp := rfl
@[simp] theorem State.setSlot_interruptRequest (s : State) (k : BitVec 3) (a : Address) : (s.setSlot k a).interruptRequest = s.interruptRequest := rfl
@[simp] theorem State.setSlot_interruptCycle (s : State) (k : BitVec 3) (a : Address) : (s.setSlot k a).interruptCycle = s.interruptCycle := rfl
@[simp] theorem State.setSlot_run (s : State) (k : BitVec 3) (a : Address) : (s.setSlot k a).run = s.run := rfl
@[simp] theorem State.setSlot_fault (s : State) (k : BitVec 3) (a : Address) : (s.setSlot k a).fault = s.fault := rfl
@[simp] theorem State.setSlot_mem (s : State) (k : BitVec 3) (a : Address) : (s.setSlot k a).mem = s.mem := rfl
@[simp] theorem State.setSlot_script (s : State) (k : BitVec 3) (a : Address) : (s.setSlot k a).script = s.script := rfl
@[simp] theorem State.setSlot_schedule (s : State) (k : BitVec 3) (a : Address) : (s.setSlot k a).schedule = s.schedule := rfl
@[simp] theorem State.setSlot_trace (s : State) (k : BitVec 3) (a : Address) : (s.setSlot k a).trace = s.trace := rfl

@[simp] theorem State.setPc_regs (s : State) (a : Address) : (s.setPc a).regs = s.regs := rfl
@[simp] theorem State.setPc_flags (s : State) (a : Address) : (s.setPc a).flags = s.flags := rfl
@[simp] theorem State.setPc_stack (s : State) (a : Address) : (s.setPc a).stack = s.stack.set s.sp.toNat (a.zeroExtend 16) s.sp.isLt := rfl
@[simp] theorem State.setPc_sp (s : State) (a : Address) : (s.setPc a).sp = s.sp := rfl
@[simp] theorem State.setPc_interruptRequest (s : State) (a : Address) : (s.setPc a).interruptRequest = s.interruptRequest := rfl
@[simp] theorem State.setPc_interruptCycle (s : State) (a : Address) : (s.setPc a).interruptCycle = s.interruptCycle := rfl
@[simp] theorem State.setPc_run (s : State) (a : Address) : (s.setPc a).run = s.run := rfl
@[simp] theorem State.setPc_fault (s : State) (a : Address) : (s.setPc a).fault = s.fault := rfl
@[simp] theorem State.setPc_mem (s : State) (a : Address) : (s.setPc a).mem = s.mem := rfl
@[simp] theorem State.setPc_script (s : State) (a : Address) : (s.setPc a).script = s.script := rfl
@[simp] theorem State.setPc_schedule (s : State) (a : Address) : (s.setPc a).schedule = s.schedule := rfl
@[simp] theorem State.setPc_trace (s : State) (a : Address) : (s.setPc a).trace = s.trace := rfl

@[simp] theorem State.push_regs (s : State) (a : Address) : (s.push a).regs = s.regs := rfl
@[simp] theorem State.push_flags (s : State) (a : Address) : (s.push a).flags = s.flags := rfl
@[simp] theorem State.push_stack (s : State) (a : Address) : (s.push a).stack = s.stack.set (s.sp + 1).toNat (a.zeroExtend 16) (s.sp + 1).isLt := rfl
@[simp] theorem State.push_sp (s : State) (a : Address) : (s.push a).sp = s.sp + 1 := rfl
@[simp] theorem State.push_interruptRequest (s : State) (a : Address) : (s.push a).interruptRequest = s.interruptRequest := rfl
@[simp] theorem State.push_interruptCycle (s : State) (a : Address) : (s.push a).interruptCycle = s.interruptCycle := rfl
@[simp] theorem State.push_run (s : State) (a : Address) : (s.push a).run = s.run := rfl
@[simp] theorem State.push_fault (s : State) (a : Address) : (s.push a).fault = s.fault := rfl
@[simp] theorem State.push_mem (s : State) (a : Address) : (s.push a).mem = s.mem := rfl
@[simp] theorem State.push_script (s : State) (a : Address) : (s.push a).script = s.script := rfl
@[simp] theorem State.push_schedule (s : State) (a : Address) : (s.push a).schedule = s.schedule := rfl
@[simp] theorem State.push_trace (s : State) (a : Address) : (s.push a).trace = s.trace := rfl

@[simp] theorem State.pop_regs (s : State) : s.pop.regs = s.regs := rfl
@[simp] theorem State.pop_flags (s : State) : s.pop.flags = s.flags := rfl
@[simp] theorem State.pop_stack (s : State) : s.pop.stack = s.stack := rfl
@[simp] theorem State.pop_sp (s : State) : s.pop.sp = s.sp - 1 := rfl
@[simp] theorem State.pop_interruptRequest (s : State) : s.pop.interruptRequest = s.interruptRequest := rfl
@[simp] theorem State.pop_interruptCycle (s : State) : s.pop.interruptCycle = s.interruptCycle := rfl
@[simp] theorem State.pop_run (s : State) : s.pop.run = s.run := rfl
@[simp] theorem State.pop_fault (s : State) : s.pop.fault = s.fault := rfl
@[simp] theorem State.pop_mem (s : State) : s.pop.mem = s.mem := rfl
@[simp] theorem State.pop_script (s : State) : s.pop.script = s.script := rfl
@[simp] theorem State.pop_schedule (s : State) : s.pop.schedule = s.schedule := rfl
@[simp] theorem State.pop_trace (s : State) : s.pop.trace = s.trace := rfl

@[simp] theorem State.perform_regs (s : State) (ts : List Transaction) : (s.perform ts).regs = s.regs := rfl
@[simp] theorem State.perform_flags (s : State) (ts : List Transaction) : (s.perform ts).flags = s.flags := rfl
@[simp] theorem State.perform_stack (s : State) (ts : List Transaction) : (s.perform ts).stack = s.stack := rfl
@[simp] theorem State.perform_sp (s : State) (ts : List Transaction) : (s.perform ts).sp = s.sp := rfl
@[simp] theorem State.perform_interruptRequest (s : State) (ts : List Transaction) : (s.perform ts).interruptRequest = s.latchAfter ts.length := rfl
@[simp] theorem State.perform_interruptCycle (s : State) (ts : List Transaction) : (s.perform ts).interruptCycle = s.interruptCycle := rfl
@[simp] theorem State.perform_run (s : State) (ts : List Transaction) : (s.perform ts).run = s.run := rfl
@[simp] theorem State.perform_fault (s : State) (ts : List Transaction) : (s.perform ts).fault = s.fault := rfl
@[simp] theorem State.perform_mem (s : State) (ts : List Transaction) : (s.perform ts).mem = s.mem := rfl
@[simp] theorem State.perform_script (s : State) (ts : List Transaction) : (s.perform ts).script = s.script.drop ts.length := rfl
@[simp] theorem State.perform_schedule (s : State) (ts : List Transaction) : (s.perform ts).schedule = s.schedule := rfl
@[simp] theorem State.perform_trace (s : State) (ts : List Transaction) : (s.perform ts).trace = s.trace ++ ts := rfl

@[simp] theorem State.turnTaken_regs (s : State) : s.turnTaken.regs = s.regs := rfl
@[simp] theorem State.turnTaken_flags (s : State) : s.turnTaken.flags = s.flags := rfl
@[simp] theorem State.turnTaken_stack (s : State) : s.turnTaken.stack = s.stack := rfl
@[simp] theorem State.turnTaken_sp (s : State) : s.turnTaken.sp = s.sp := rfl
@[simp] theorem State.turnTaken_interruptRequest (s : State) : s.turnTaken.interruptRequest = s.interruptRequest := rfl
@[simp] theorem State.turnTaken_interruptCycle (s : State) : s.turnTaken.interruptCycle = s.interruptCycle := rfl
@[simp] theorem State.turnTaken_run (s : State) : s.turnTaken.run = s.run := rfl
@[simp] theorem State.turnTaken_fault (s : State) : s.turnTaken.fault = s.fault := rfl
@[simp] theorem State.turnTaken_mem (s : State) : s.turnTaken.mem = s.mem := rfl
@[simp] theorem State.turnTaken_script (s : State) : s.turnTaken.script = s.script := rfl
@[simp] theorem State.turnTaken_schedule (s : State) : s.turnTaken.schedule = s.schedule.tail := rfl
@[simp] theorem State.turnTaken_trace (s : State) : s.turnTaken.trace = s.trace := rfl

@[simp] theorem State.requestInterrupt_regs (s : State) : s.requestInterrupt.regs = s.regs := rfl
@[simp] theorem State.requestInterrupt_flags (s : State) : s.requestInterrupt.flags = s.flags := rfl
@[simp] theorem State.requestInterrupt_stack (s : State) : s.requestInterrupt.stack = s.stack := rfl
@[simp] theorem State.requestInterrupt_sp (s : State) : s.requestInterrupt.sp = s.sp := rfl
@[simp] theorem State.requestInterrupt_interruptRequest (s : State) : s.requestInterrupt.interruptRequest = true := rfl
@[simp] theorem State.requestInterrupt_interruptCycle (s : State) : s.requestInterrupt.interruptCycle = s.interruptCycle := rfl
@[simp] theorem State.requestInterrupt_run (s : State) : s.requestInterrupt.run = s.run := rfl
@[simp] theorem State.requestInterrupt_fault (s : State) : s.requestInterrupt.fault = s.fault := rfl
@[simp] theorem State.requestInterrupt_mem (s : State) : s.requestInterrupt.mem = s.mem := rfl
@[simp] theorem State.requestInterrupt_script (s : State) : s.requestInterrupt.script = s.script := rfl
@[simp] theorem State.requestInterrupt_schedule (s : State) : s.requestInterrupt.schedule = s.schedule := rfl
@[simp] theorem State.requestInterrupt_trace (s : State) : s.requestInterrupt.trace = s.trace := rfl

@[simp] theorem State.endCycle_regs (s : State) : s.endCycle.regs = s.regs := rfl
@[simp] theorem State.endCycle_flags (s : State) : s.endCycle.flags = s.flags := rfl
@[simp] theorem State.endCycle_stack (s : State) : s.endCycle.stack = s.stack := rfl
@[simp] theorem State.endCycle_sp (s : State) : s.endCycle.sp = s.sp := rfl
@[simp] theorem State.endCycle_interruptRequest (s : State) : s.endCycle.interruptRequest = s.interruptRequest := rfl
@[simp] theorem State.endCycle_interruptCycle (s : State) : s.endCycle.interruptCycle = false := rfl
@[simp] theorem State.endCycle_run (s : State) : s.endCycle.run = s.run := rfl
@[simp] theorem State.endCycle_fault (s : State) : s.endCycle.fault = s.fault := rfl
@[simp] theorem State.endCycle_mem (s : State) : s.endCycle.mem = s.mem := rfl
@[simp] theorem State.endCycle_script (s : State) : s.endCycle.script = s.script := rfl
@[simp] theorem State.endCycle_schedule (s : State) : s.endCycle.schedule = s.schedule := rfl
@[simp] theorem State.endCycle_trace (s : State) : s.endCycle.trace = s.trace := rfl

@[simp] theorem State.raiseUnimplemented_regs (s : State) (op : Byte) : (s.raiseUnimplemented op).regs = s.regs := rfl
@[simp] theorem State.raiseUnimplemented_flags (s : State) (op : Byte) : (s.raiseUnimplemented op).flags = s.flags := rfl
@[simp] theorem State.raiseUnimplemented_stack (s : State) (op : Byte) : (s.raiseUnimplemented op).stack = s.stack := rfl
@[simp] theorem State.raiseUnimplemented_sp (s : State) (op : Byte) : (s.raiseUnimplemented op).sp = s.sp := rfl
@[simp] theorem State.raiseUnimplemented_interruptRequest (s : State) (op : Byte) : (s.raiseUnimplemented op).interruptRequest = s.interruptRequest := rfl
@[simp] theorem State.raiseUnimplemented_interruptCycle (s : State) (op : Byte) : (s.raiseUnimplemented op).interruptCycle = s.interruptCycle := rfl
@[simp] theorem State.raiseUnimplemented_run (s : State) (op : Byte) : (s.raiseUnimplemented op).run = s.run := rfl
@[simp] theorem State.raiseUnimplemented_fault (s : State) (op : Byte) : (s.raiseUnimplemented op).fault = .unimplementedOpcode op := rfl
@[simp] theorem State.raiseUnimplemented_mem (s : State) (op : Byte) : (s.raiseUnimplemented op).mem = s.mem := rfl
@[simp] theorem State.raiseUnimplemented_script (s : State) (op : Byte) : (s.raiseUnimplemented op).script = s.script := rfl
@[simp] theorem State.raiseUnimplemented_schedule (s : State) (op : Byte) : (s.raiseUnimplemented op).schedule = s.schedule := rfl
@[simp] theorem State.raiseUnimplemented_trace (s : State) (op : Byte) : (s.raiseUnimplemented op).trace = s.trace := rfl

end Sys2Proof.Machine
end

