-- ==== Sys2Proof/Laws/Ops.lean ====
section
/-! SUPPORT. The shared operations, each in closed form: what the next state is, said once, in terms of
`perform` (a run of transactions) followed by updates of fields. -/

namespace Sys2Proof.Machine

/-! ## Registers -/

@[simp] theorem RegFile.get_set_self (r : RegFile) (i : Reg) (v : Byte) : (r.set i v).get i = v := by
  cases i <;> rfl

theorem RegFile.get_set_ne (r : RegFile) {i j : Reg} (v : Byte) (h : j ≠ i) : (r.set i v).get j = r.get j := by
  cases i <;> cases j <;> first | rfl | exact absurd rfl h

/-! ## The address stack -/

@[simp] theorem State.slot_setSlot_self (s : State) (k : BitVec 3) (a : Address) :
    (s.setSlot k a).slot k = a.zeroExtend 16 := by
  simp [State.slot]

theorem State.slot_setSlot_ne (s : State) {k j : BitVec 3} (a : Address) (h : j ≠ k) :
    (s.setSlot k a).slot j = s.slot j := by
  have : k.toNat ≠ j.toNat := fun e => h (BitVec.eq_of_toNat_eq e.symm)
  simp [State.slot, this]

/-- The low fourteen bits of a container holding an address are the address. -/
@[simp] theorem extract_zeroExtend (a : Address) : (a.zeroExtend 16).extractLsb' 0 14 = a := by
  apply BitVec.eq_of_toNat_eq
  have := a.isLt
  simp
  omega

@[simp] theorem State.pc_setPc (s : State) (a : Address) : (s.setPc a).pc = a := by
  simp [State.pc, State.slot]

@[simp] theorem State.setPc_setPc (s : State) (a b : Address) : (s.setPc a).setPc b = s.setPc b := by
  simp [State.setPc, State.setSlot]

@[simp] theorem State.pc_push (s : State) (a : Address) : (s.push a).pc = a := by
  simp [State.pc, State.slot]

@[simp] theorem State.pc_perform (s : State) (ts : List Transaction) : (s.perform ts).pc = s.pc := rfl

@[simp] theorem State.memAddr_perform (s : State) (ts : List Transaction) : (s.perform ts).memAddr = s.memAddr := rfl

@[simp] theorem State.memAddr_setPc (s : State) (a : Address) : (s.setPc a).memAddr = s.memAddr := rfl

/-! ## Runs of transactions -/

@[simp] theorem State.perform_nil (s : State) : s.perform [] = s := by
  simp [State.perform, State.latchAfter]

@[simp] theorem State.perform_perform (s : State) (ts us : List Transaction) :
    (s.perform ts).perform us = s.perform (ts ++ us) := by
  simp [State.perform, State.latchAfter, List.take_add, Bool.or_assoc]

@[simp] theorem State.replyAt_perform (s : State) (ts : List Transaction) (k : Nat) :
    (s.perform ts).replyAt k = s.replyAt (ts.length + k) := by
  simp [State.replyAt, State.perform, List.getD]

@[simp] theorem State.answerAt_perform (s : State) (ts : List Transaction) (k : Nat) (d : Byte) :
    (s.perform ts).answerAt k d = s.answerAt (ts.length + k) d := by
  simp [State.answerAt]

@[simp] theorem State.silent_perform (s : State) (ts : List Transaction) (k : Nat) (p : BusState) (o : Byte) :
    (s.perform ts).silent k p o = s.silent (ts.length + k) p o := by
  simp [State.silent, Nat.add_assoc]

/-- One transaction is a run of one. -/
theorem State.transact_eq (s : State) (p : BusState) (o : Byte) (i : Byte) :
    s.transact p o i = s.perform [⟨p, o, i⟩] := by
  cases h : s.script <;> simp [State.transact, State.perform, State.latchAfter, State.nextReply, h, Reply.quiet]

theorem State.nextReply_eq (s : State) : s.nextReply = s.replyAt 0 := by
  cases h : s.script <;> simp [State.nextReply, State.replyAt, h]

/-- A transaction, with the byte it answers. -/
theorem State.busRead_eq (s : State) (p : BusState) (o d : Byte) :
    s.busRead p o d = (s.answerAt 0 d, s.perform [⟨p, o, s.answerAt 0 d⟩]) := by
  rw [State.busRead, State.transact_eq, State.nextReply_eq, State.answerAt]

/-- A transaction whose answer is ignored. -/
theorem State.bus_eq (s : State) (p : BusState) (o : Byte) : s.bus p o = s.perform [s.silent 0 p o] := by
  rw [State.bus, State.busRead_eq]
  rfl

/-- A visibility transaction is an ignored one (R63). -/
theorem State.visible_eq (s : State) (p : BusState) (o : Byte) : s.visible p o = s.perform [s.silent 0 p o] := by
  rw [State.visible, if_pos (by rfl), State.bus_eq]

/-! Updates of the core's fields and runs of transactions pass each other. -/

@[simp] theorem State.perform_setReg (s : State) (i : Reg) (v : Byte) (ts : List Transaction) :
    (s.setReg i v).perform ts = (s.perform ts).setReg i v := rfl

@[simp] theorem State.perform_setFlags (s : State) (f : Flags) (ts : List Transaction) :
    (s.setFlags f).perform ts = (s.perform ts).setFlags f := rfl

@[simp] theorem State.perform_setPc (s : State) (a : Address) (ts : List Transaction) :
    (s.setPc a).perform ts = (s.perform ts).setPc a := rfl

@[simp] theorem State.perform_push (s : State) (a : Address) (ts : List Transaction) :
    (s.push a).perform ts = (s.perform ts).push a := rfl

@[simp] theorem State.perform_pop (s : State) (ts : List Transaction) : s.pop.perform ts = (s.perform ts).pop := rfl

@[simp] theorem State.replyAt_setReg (s : State) (i : Reg) (v : Byte) (k : Nat) : (s.setReg i v).replyAt k = s.replyAt k := rfl

@[simp] theorem State.silent_setReg (s : State) (i : Reg) (v : Byte) (k : Nat) (p : BusState) (o : Byte) :
    (s.setReg i v).silent k p o = s.silent k p o := rfl

@[simp] theorem State.silent_setFlags (s : State) (f : Flags) (k : Nat) (p : BusState) (o : Byte) :
    (s.setFlags f).silent k p o = s.silent k p o := rfl

@[simp] theorem State.silent_setPc (s : State) (a : Address) (k : Nat) (p : BusState) (o : Byte) :
    (s.setPc a).silent k p o = s.silent k p o := rfl

@[simp] theorem State.silent_push (s : State) (a : Address) (k : Nat) (p : BusState) (o : Byte) :
    (s.push a).silent k p o = s.silent k p o := rfl

@[simp] theorem State.silent_pop (s : State) (k : Nat) (p : BusState) (o : Byte) : s.pop.silent k p o = s.silent k p o := rfl

@[simp] theorem State.answerAt_setPc (s : State) (a : Address) (k : Nat) (d : Byte) :
    (s.setPc a).answerAt k d = s.answerAt k d := rfl

/-! Whose turn it is matters to nothing else. -/

@[simp] theorem State.pc_turnTaken (s : State) : s.turnTaken.pc = s.pc := rfl

@[simp] theorem State.replyAt_turnTaken (s : State) (k : Nat) : s.turnTaken.replyAt k = s.replyAt k := rfl

@[simp] theorem State.silent_turnTaken (s : State) (k : Nat) (p : BusState) (o : Byte) :
    s.turnTaken.silent k p o = s.silent k p o := rfl

@[simp] theorem State.latchAfter_turnTaken (s : State) (n : Nat) : s.turnTaken.latchAfter n = s.latchAfter n := rfl

/-! ## What a trace has written -/

/-- Replay goes on from where it was, where no write cycle straddles the join: what follows does not begin with
T2 or T3, as no step does. -/
theorem Memory.replay_append (ys : List Transaction) (h : ∀ y ∈ ys.head?, y.phase ≠ .t2 ∧ y.phase ≠ .t3) :
    ∀ (xs : List Transaction) (m : Memory), m.replay (xs ++ ys) = (m.replay xs).replay ys := by
  have join : ∀ x xs, writeCycle (x :: xs ++ ys) = writeCycle (x :: xs) := by
    intro x xs
    rcases ys with _ | ⟨⟨p, o, i⟩, ys⟩
    · rw [List.append_nil]
    · have := h _ rfl
      rcases x with ⟨px, _, _⟩
      rcases xs with _ | ⟨⟨py, _, _⟩, _ | ⟨⟨pz, _, _⟩, xs⟩⟩
      · cases p <;> first | exact absurd rfl this.1 | exact absurd rfl this.2 | (cases px <;> rfl)
      · cases p <;> first | exact absurd rfl this.1 | exact absurd rfl this.2 | (cases px <;> first | rfl | (cases py <;> rfl))
      · cases px <;> cases py <;> cases pz <;> rfl
  intro xs
  induction xs with
  | nil => intro m; rfl
  | cons x xs ih =>
    intro m
    show Memory.replay m (x :: xs ++ ys) = _
    have e := join x xs
    simp only [List.cons_append] at e ⊢
    rw [Memory.replay, Memory.replay, e]
    split <;> exact ih _

/-! ## Machine cycles -/

/-- `ReadImm()` (R59): three transactions, `pc` advanced. -/
theorem State.readImm_eq (s : State) :
    s.readImm =
      (s.answerAt 2 (s.mem.read s.pc),
        (s.perform (s.fetchCycle 0 .t1 0b10#2 s.pc (s.answerAt 2 (s.mem.read s.pc)))).setPc (s.pc + 1)) := by
  simp [State.readImm, State.bus_eq, State.busRead_eq, State.fetchCycle, addrLow, addrHigh, t2Byte, Config.immTag,
    Config.tagPCR, Config.t3ReadOut]

/-- `FetchOpcode()` in a normal cycle (R58): three transactions, `pc` advanced. -/
theorem State.fetchOpcode_normal (s : State) (h : s.interruptCycle = false) :
    s.fetchOpcode =
      (s.fetchedByte 0, (s.perform (s.fetchCycle 0 .t1 0b00#2 s.pc (s.fetchedByte 0))).setPc (s.pc + 1)) := by
  simp [State.fetchOpcode, h, State.bus_eq, State.busRead_eq, State.fetchCycle, State.fetchedByte, addrLow, addrHigh,
    t2Byte, Config.tagPCI, Config.t3ReadOut]

/-- `FetchOpcode()` in an interrupt-forced cycle (R58): three transactions, `pc` kept. -/
theorem State.fetchOpcode_forced (s : State) (h : s.interruptCycle = true) :
    s.fetchOpcode = (s.forcedOpcode, s.perform (s.fetchCycle 0 .t1I 0b00#2 s.pc s.forcedOpcode)) := by
  simp [State.fetchOpcode, h, State.bus_eq, State.busRead_eq, State.fetchCycle, State.forcedOpcode, addrLow, addrHigh,
    t2Byte, Config.tagPCI, Config.t3ReadOut]

/-- `MemRead` (R60): three transactions and nothing else. -/
theorem State.memRead_eq (s : State) :
    s.memRead =
      (s.answerAt 2 (s.mem.read s.memAddr),
        s.perform [s.silent 0 .t1 s.regs.l, s.silent 1 .t2 (0b10#2 ++ s.regs.h.extractLsb' 0 6),
          ⟨.t3, 0x00, s.answerAt 2 (s.mem.read s.memAddr)⟩]) := by
  simp [State.memRead, State.bus_eq, State.busRead_eq, t2Byte, Config.tagPCR, Config.t3ReadOut]

/-- `MemWrite` (R61): three transactions; the environment's memory takes the byte. -/
theorem State.memWrite_eq (s : State) (v : Byte) :
    s.memWrite v =
      { s.perform [s.silent 0 .t1 s.regs.l, s.silent 1 .t2 (0b11#2 ++ s.regs.h.extractLsb' 0 6), s.silent 2 .t3 v] with
        mem := s.mem.write s.memAddr v } := by
  simp [State.memWrite, State.bus_eq, t2Byte, Config.tagPCW]

/-- The beginning of a command cycle (R62): two transactions. -/
theorem State.ioCommand_eq (s : State) (op6 : BitVec 6) :
    s.ioCommand op6 = s.perform [s.silent 0 .t1 s.regs.a, s.silent 1 .t2 (0b01#2 ++ op6)] := by
  simp [State.ioCommand, State.bus_eq, t2Byte, Config.tagPCC]

/-- `StoppedPoll()` (R223): one transaction; RUNNING if the latch is then 1. -/
theorem State.stoppedPoll_eq (s : State) :
    s.stoppedPoll =
      { s.perform [s.silent 0 .stopped 0x00] with run := if s.latchAfter 1 then .running else s.run } := by
  simp only [State.stoppedPoll, State.bus_eq, Config.stoppedOut, State.perform_interruptRequest, List.length_singleton]
  split <;> rfl

end Sys2Proof.Machine
end

