-- ==== Sys2Proof/Laws/Meanings.lean ====
section
/-! SUPPORT. The meanings in closed form: for each shared operation of an instruction family, the whole next
state, said once; and the arm of `exec` that each family's constructors reach. -/

namespace Sys2Proof.Machine

/-! ## Arms, by family -/

theorem exec_loadInstr (dst src : Reg) (s : State) : exec (loadInstr dst src) s = .next (loadReg dst (some src) s) := by
  cases dst <;> cases src <;> rfl

theorem exec_loadMemInstr (dst : Reg) (s : State) : exec (loadMemInstr dst) s = .next (loadReg dst none s) := by
  cases dst <;> rfl

theorem exec_storeInstr (src : Reg) (s : State) : exec (storeInstr src) s = .next (storeReg src s) := by
  cases src <;> rfl

theorem exec_loadImmInstr (dst : Reg) (imm : Byte) (s : State) :
    exec (loadImmInstr dst imm) s = .next (loadImm dst imm s) := by
  cases dst <;> rfl

theorem exec_aluRegInstr (op : AluOp) (r : Reg) (s : State) :
    exec (aluRegInstr op r) s = .next (aluFrom op (some r) s) := by
  cases op <;> cases r <;> rfl

theorem exec_aluMemInstr (op : AluOp) (s : State) : exec (aluMemInstr op) s = .next (aluFrom op none s) := by
  cases op <;> rfl

theorem exec_aluImmInstr (op : AluOp) (imm : Byte) (s : State) :
    exec (aluImmInstr op imm) s = .next (aluWith op imm s) := by
  cases op <;> rfl

theorem exec_rotateInstr (op : RotateOp) (x : BitVec 1) (s : State) :
    exec (rotateInstr op x) s = .next (rotate op s) := by
  cases op <;> rfl

theorem exec_jumpIfInstr (t : Bool) (cc : Condition) (lo hi : Byte) (s : State) :
    exec (jumpIfInstr t cc lo hi) s = .next (jumpIf t cc (target14 lo hi) s) := by
  cases t <;> cases cc <;> rfl

theorem exec_callIfInstr (t : Bool) (cc : Condition) (lo hi : Byte) (s : State) :
    exec (callIfInstr t cc lo hi) s = .next (callIf t cc (target14 lo hi) s) := by
  cases t <;> cases cc <;> rfl

theorem exec_returnIfInstr (t : Bool) (cc : Condition) (s : State) :
    exec (returnIfInstr t cc) s = .next (returnIf t cc s) := by
  cases t <;> cases cc <;> rfl

theorem exec_incInstr (r : Reg) (h : r ≠ .a) (op : Byte) (s : State) :
    exec (incInstr r op) s = .next (increment r s) := by
  cases r <;> first | rfl | exact absurd rfl h

theorem exec_decInstr (r : Reg) (h : r ≠ .a) (op : Byte) (s : State) :
    exec (decInstr r op) s = .next (decrement r s) := by
  cases r <;> first | rfl | exact absurd rfl h

theorem exec_rstInstr (n : BitVec 3) (s : State) : exec (rstInstr n) s = .next (restart n s) := by
  obtain ⟨k, hk⟩ := n
  interval_cases k <;> rfl

theorem exec_ioInstr_input (p : BitVec 5) (h : p.toNat < 8) (s : State) : exec (ioInstr p) s = .next (input p s) := by
  obtain ⟨k, hk⟩ := p
  replace h : k < 8 := h
  interval_cases k <;> rfl

theorem exec_ioInstr_output (p : BitVec 5) (h : 8 ≤ p.toNat) (s : State) :
    exec (ioInstr p) s = .next (output p s) := by
  obtain ⟨k, hk⟩ := p
  replace h : 8 ≤ k := h
  interval_cases k <;> rfl

/-! ## Whole next states, by shared operation -/

/-- `L d s`: two transactions, one register (R120). -/
theorem loadReg_some (dst src : Reg) (s : State) :
    loadReg dst (some src) s =
      (s.perform [s.silent 0 .t4 (s.regs.get src), s.silent 1 .t5 (s.regs.get src)]).setReg dst (s.regs.get src) := by
  simp [loadReg, State.readSel, State.writeSel, State.visible_eq]

/-- `L d M`: five transactions, one register (R121). -/
theorem loadReg_none (dst : Reg) (s : State) :
    loadReg dst none s =
      (s.memRead.2.perform [s.silent 3 .t4 s.memRead.1, s.silent 4 .t5 s.memRead.1]).setReg dst s.memRead.1 := by
  simp [loadReg, State.readSel, State.writeSel, State.visible_eq, State.memRead_eq]

/-- `LM s`: four transactions, one byte of memory (R122). -/
theorem storeReg_eq (src : Reg) (s : State) :
    storeReg src s = (s.perform [s.silent 0 .t4 (s.regs.get src)]).memWrite (s.regs.get src) := by
  simp [storeReg, State.writeSel, State.visible_eq]

/-- `L d I`, its operand fetched: two transactions, one register (R123). -/
theorem loadImm_eq (dst : Reg) (imm : Byte) (s : State) :
    loadImm dst imm s = (s.perform [s.silent 0 .t4 imm, s.silent 1 .t5 imm]).setReg dst imm := by
  simp [loadImm, State.writeSel, State.visible_eq]

/-- An ALU operation with its operand in hand: two transactions, the flags, and A but for compare (R155). -/
theorem aluWith_eq (op : AluOp) (b : Byte) (s : State) :
    aluWith op b s =
      let w := alu op s.regs.a b s.flags.c
      let t := (s.perform [s.silent 0 .t4 b, s.silent 1 .t5 (aluResult w)]).setFlags (s.flags.afterAlu op w)
      if aluWritesA op then t.setReg .a (aluResult w) else t := by
  simp only [aluWith, State.visible_eq]
  split <;> simp

/-- A register replaced: two transactions, the register, zero, sign and parity (R170, R171). -/
theorem replaceReg_eq (dst : Reg) (res : Byte) (s : State) :
    replaceReg dst res s =
      ((s.perform [s.silent 0 .t4 (s.regs.get dst), s.silent 1 .t5 res]).setReg dst res).setFlags (s.flags.zsp res) := by
  simp [replaceReg, State.visible_eq]

/-- A rotate: two transactions, A and carry (R180 to R183). -/
theorem rotate_eq (op : RotateOp) (s : State) :
    rotate op s =
      ((s.perform [s.silent 0 .t4 s.regs.a, s.silent 1 .t5 (rotateResult op s.regs.a s.flags.c)]).setFlags
        (s.flags.setCarry (rotateCarry op s.regs.a))).setReg .a (rotateResult op s.regs.a s.flags.c) := by
  simp [rotate, State.visible_eq]

/-- The two transactions that show a target (R63). -/
theorem State.showTarget_eq (s : State) (t : Address) :
    s.showTarget t = s.perform [s.silent 0 .t4 ((addrHigh t).zeroExtend 8), s.silent 1 .t5 (addrLow t)] := by
  simp [State.showTarget, State.visible_eq]

/-- A restart: two transactions and a push (R203). -/
theorem restart_eq (n : BitVec 3) (s : State) :
    restart n s =
      (s.perform [s.silent 0 .t4 0x00, s.silent 1 .t5 (addrLow (restartVector n))]).push (restartVector n) := by
  simp [restart, State.visible_eq]

/-- `INP`: five transactions and A (R210). -/
theorem input_eq (p : BitVec 5) (s : State) :
    input p s =
      (s.perform [s.silent 0 .t1 s.regs.a, s.silent 1 .t2 (0b01#2 ++ portBits p),
          ⟨.t3, 0x00, s.answerAt 2 (Config.freeInput (s.trace.length + 2))⟩, s.silent 3 .t4 s.flags.byte,
          s.silent 4 .t5 (s.answerAt 2 (Config.freeInput (s.trace.length + 2)))]).setReg .a
        (s.answerAt 2 (Config.freeInput (s.trace.length + 2))) := by
  simp [input, State.visible_eq, State.ioCommand_eq, State.busRead_eq, Config.t3ReadOut]

/-- `OUT`: three transactions and nothing else (R211). -/
theorem output_eq (p : BitVec 5) (s : State) :
    output p s =
      s.perform [s.silent 0 .t1 s.regs.a, s.silent 1 .t2 (0b01#2 ++ portBits p), s.silent 2 .wait s.regs.a] := by
  simp [output, State.ioCommand_eq, State.bus_eq]

/-- `HLT`: one STOPPED transaction; STOPPED, or RUNNING if the latch is then 1 (R220). -/
theorem halt_eq (s : State) :
    halt s =
      { s.perform [s.silent 0 .stopped 0x00] with run := if s.latchAfter 1 then .running else .stopped } := by
  rw [halt, State.stoppedPoll_eq]
  rfl

/-! ## Instruction fetch -/

/-- A fetch in a normal cycle (R58, R59): as many machine cycles as the opcode's length, `pc` past them. -/
theorem State.fetchInstr_normal (s : State) (h : s.interruptCycle = false) :
    s.fetchInstr =
      (instrOf (s.fetchedByte 0) (if instrLength (s.fetchedByte 0) = 1 then 0 else s.fetchedByte 1)
          (if instrLength (s.fetchedByte 0) = 1 ∨ instrLength (s.fetchedByte 0) = 2 then 0 else s.fetchedByte 2),
        if instrLength (s.fetchedByte 0) = 1 then (s.perform (s.fetchTransactions 1)).setPc (s.pc + 1)
        else if instrLength (s.fetchedByte 0) = 2 then (s.perform (s.fetchTransactions 2)).setPc (s.pc + 2)
        else (s.perform (s.fetchTransactions 3)).setPc (s.pc + 3)) := by
  have h2 : s.pc + 1 + 1 = s.pc + 2 := by bv_omega
  have h3 : s.pc + 2 + 1 = s.pc + 3 := by bv_omega
  rw [State.fetchInstr, State.fetchOpcode_normal s h]
  split <;> rename_i hl <;>
    simp_all [State.readImm_eq, State.fetchTransactions, State.fetchCycle, State.fetchedByte]

/-- A fetch in an interrupt-forced cycle (R58, R59, R108): the opcode fetch does not advance `pc`. -/
theorem State.fetchInstr_forced (s : State) (h : s.interruptCycle = true) :
    s.fetchInstr =
      (instrOf s.forcedOpcode (if instrLength s.forcedOpcode = 1 then 0 else s.forcedOperand 0)
          (if instrLength s.forcedOpcode = 1 ∨ instrLength s.forcedOpcode = 2 then 0 else s.forcedOperand 1),
        if instrLength s.forcedOpcode = 1 then s.perform (s.forcedTransactions 1)
        else if instrLength s.forcedOpcode = 2 then (s.perform (s.forcedTransactions 2)).setPc (s.pc + 1)
        else (s.perform (s.forcedTransactions 3)).setPc (s.pc + 2)) := by
  have h2 : s.pc + 1 + 1 = s.pc + 2 := by bv_omega
  rw [State.fetchInstr, State.fetchOpcode_forced s h]
  split <;> rename_i hl <;>
    simp_all [State.readImm_eq, State.forcedTransactions, State.fetchCycle, State.forcedOperand]

/-! ## The core's step -/

/-- On the core's turn the step is the core's, the turn used up (R100, log entry 5). -/
theorem step_coresTurn (s : State) (h : s.coresTurn = true) : step s = coreStep s.turnTaken := by
  rcases hs : s.schedule with _ | ⟨t, rest⟩
  · simp only [step, State.turnTaken, hs, List.tail_nil]
    rw [← hs]
  · cases t <;> simp_all [step, State.turnTaken, State.coresTurn]


/-- A RUNNING core's step (R100). -/
theorem coreStep_running (s : State) (hf : s.fault = .none) (hr : s.run = .running) :
    coreStep s = endStep (exec s.sampleInterrupt.fetchInstr.1 s.sampleInterrupt.fetchInstr.2) := by
  simp [coreStep, hf, hr]

/-- A STOPPED core's step (R100). -/
theorem coreStep_stopped (s : State) (hf : s.fault = .none) (hr : s.run = .stopped) :
    coreStep s = .next s.stoppedPoll := by
  simp [coreStep, hf, hr]

/-- A faulted core's step (R248). -/
theorem coreStep_faulted (s : State) (op : Byte) (hf : s.fault = .unimplementedOpcode op) :
    coreStep s = .fault (.coreFaulted op) := by
  simp [coreStep, hf]

end Sys2Proof.Machine
end

