-- ==== Sys2Proof/Laws/PerInstr.lean ====
section
/-! SUPPORT. Statements about every instruction as syntax, one lemma per constructor of Instr. -/

namespace Sys2Proof.Laws

/-- A well-formed instruction's encoding is an opcode byte followed by as many bytes as that opcode's length
asks for (R80, R96). -/
def EncodedLength.Statement (i : Instr) : Prop :=
  i.wellFormed = true → ∃ op rest, encode i = op :: rest ∧ (encode i).length = instrLength op

theorem EncodedLength.laa : EncodedLength.Statement .laa := fun _ => ⟨_, _, rfl, rfl⟩

theorem EncodedLength.lab : EncodedLength.Statement .lab := fun _ => ⟨_, _, rfl, rfl⟩

theorem EncodedLength.lac : EncodedLength.Statement .lac := fun _ => ⟨_, _, rfl, rfl⟩

theorem EncodedLength.lad : EncodedLength.Statement .lad := fun _ => ⟨_, _, rfl, rfl⟩

theorem EncodedLength.lae : EncodedLength.Statement .lae := fun _ => ⟨_, _, rfl, rfl⟩

theorem EncodedLength.lah : EncodedLength.Statement .lah := fun _ => ⟨_, _, rfl, rfl⟩

theorem EncodedLength.lal : EncodedLength.Statement .lal := fun _ => ⟨_, _, rfl, rfl⟩

theorem EncodedLength.lba : EncodedLength.Statement .lba := fun _ => ⟨_, _, rfl, rfl⟩

theorem EncodedLength.lbb : EncodedLength.Statement .lbb := fun _ => ⟨_, _, rfl, rfl⟩

theorem EncodedLength.lbc : EncodedLength.Statement .lbc := fun _ => ⟨_, _, rfl, rfl⟩

theorem EncodedLength.lbd : EncodedLength.Statement .lbd := fun _ => ⟨_, _, rfl, rfl⟩

theorem EncodedLength.lbe : EncodedLength.Statement .lbe := fun _ => ⟨_, _, rfl, rfl⟩

theorem EncodedLength.lbh : EncodedLength.Statement .lbh := fun _ => ⟨_, _, rfl, rfl⟩

theorem EncodedLength.lbl : EncodedLength.Statement .lbl := fun _ => ⟨_, _, rfl, rfl⟩

theorem EncodedLength.lca : EncodedLength.Statement .lca := fun _ => ⟨_, _, rfl, rfl⟩

theorem EncodedLength.lcb : EncodedLength.Statement .lcb := fun _ => ⟨_, _, rfl, rfl⟩

theorem EncodedLength.lcc : EncodedLength.Statement .lcc := fun _ => ⟨_, _, rfl, rfl⟩

theorem EncodedLength.lcd : EncodedLength.Statement .lcd := fun _ => ⟨_, _, rfl, rfl⟩

theorem EncodedLength.lce : EncodedLength.Statement .lce := fun _ => ⟨_, _, rfl, rfl⟩

theorem EncodedLength.lch : EncodedLength.Statement .lch := fun _ => ⟨_, _, rfl, rfl⟩

theorem EncodedLength.lcl : EncodedLength.Statement .lcl := fun _ => ⟨_, _, rfl, rfl⟩

theorem EncodedLength.lda : EncodedLength.Statement .lda := fun _ => ⟨_, _, rfl, rfl⟩

theorem EncodedLength.ldb : EncodedLength.Statement .ldb := fun _ => ⟨_, _, rfl, rfl⟩

theorem EncodedLength.ldc : EncodedLength.Statement .ldc := fun _ => ⟨_, _, rfl, rfl⟩

theorem EncodedLength.ldd : EncodedLength.Statement .ldd := fun _ => ⟨_, _, rfl, rfl⟩

theorem EncodedLength.lde : EncodedLength.Statement .lde := fun _ => ⟨_, _, rfl, rfl⟩

theorem EncodedLength.ldh : EncodedLength.Statement .ldh := fun _ => ⟨_, _, rfl, rfl⟩

theorem EncodedLength.ldl : EncodedLength.Statement .ldl := fun _ => ⟨_, _, rfl, rfl⟩

theorem EncodedLength.lea : EncodedLength.Statement .lea := fun _ => ⟨_, _, rfl, rfl⟩

theorem EncodedLength.leb : EncodedLength.Statement .leb := fun _ => ⟨_, _, rfl, rfl⟩

theorem EncodedLength.lec : EncodedLength.Statement .lec := fun _ => ⟨_, _, rfl, rfl⟩

theorem EncodedLength.led : EncodedLength.Statement .led := fun _ => ⟨_, _, rfl, rfl⟩

theorem EncodedLength.lee : EncodedLength.Statement .lee := fun _ => ⟨_, _, rfl, rfl⟩

theorem EncodedLength.leh : EncodedLength.Statement .leh := fun _ => ⟨_, _, rfl, rfl⟩

theorem EncodedLength.lel : EncodedLength.Statement .lel := fun _ => ⟨_, _, rfl, rfl⟩

theorem EncodedLength.lha : EncodedLength.Statement .lha := fun _ => ⟨_, _, rfl, rfl⟩

theorem EncodedLength.lhb : EncodedLength.Statement .lhb := fun _ => ⟨_, _, rfl, rfl⟩

theorem EncodedLength.lhc : EncodedLength.Statement .lhc := fun _ => ⟨_, _, rfl, rfl⟩

theorem EncodedLength.lhd : EncodedLength.Statement .lhd := fun _ => ⟨_, _, rfl, rfl⟩

theorem EncodedLength.lhe : EncodedLength.Statement .lhe := fun _ => ⟨_, _, rfl, rfl⟩

theorem EncodedLength.lhh : EncodedLength.Statement .lhh := fun _ => ⟨_, _, rfl, rfl⟩

theorem EncodedLength.lhl : EncodedLength.Statement .lhl := fun _ => ⟨_, _, rfl, rfl⟩

theorem EncodedLength.lla : EncodedLength.Statement .lla := fun _ => ⟨_, _, rfl, rfl⟩

theorem EncodedLength.llb : EncodedLength.Statement .llb := fun _ => ⟨_, _, rfl, rfl⟩

theorem EncodedLength.llc : EncodedLength.Statement .llc := fun _ => ⟨_, _, rfl, rfl⟩

theorem EncodedLength.lld : EncodedLength.Statement .lld := fun _ => ⟨_, _, rfl, rfl⟩

theorem EncodedLength.lle : EncodedLength.Statement .lle := fun _ => ⟨_, _, rfl, rfl⟩

theorem EncodedLength.llh : EncodedLength.Statement .llh := fun _ => ⟨_, _, rfl, rfl⟩

theorem EncodedLength.lll : EncodedLength.Statement .lll := fun _ => ⟨_, _, rfl, rfl⟩

theorem EncodedLength.lam : EncodedLength.Statement .lam := fun _ => ⟨_, _, rfl, rfl⟩

theorem EncodedLength.lbm : EncodedLength.Statement .lbm := fun _ => ⟨_, _, rfl, rfl⟩

theorem EncodedLength.lcm : EncodedLength.Statement .lcm := fun _ => ⟨_, _, rfl, rfl⟩

theorem EncodedLength.ldm : EncodedLength.Statement .ldm := fun _ => ⟨_, _, rfl, rfl⟩

theorem EncodedLength.lem : EncodedLength.Statement .lem := fun _ => ⟨_, _, rfl, rfl⟩

theorem EncodedLength.lhm : EncodedLength.Statement .lhm := fun _ => ⟨_, _, rfl, rfl⟩

theorem EncodedLength.llm : EncodedLength.Statement .llm := fun _ => ⟨_, _, rfl, rfl⟩

theorem EncodedLength.lma : EncodedLength.Statement .lma := fun _ => ⟨_, _, rfl, rfl⟩

theorem EncodedLength.lmb : EncodedLength.Statement .lmb := fun _ => ⟨_, _, rfl, rfl⟩

theorem EncodedLength.lmc : EncodedLength.Statement .lmc := fun _ => ⟨_, _, rfl, rfl⟩

theorem EncodedLength.lmd : EncodedLength.Statement .lmd := fun _ => ⟨_, _, rfl, rfl⟩

theorem EncodedLength.lme : EncodedLength.Statement .lme := fun _ => ⟨_, _, rfl, rfl⟩

theorem EncodedLength.lmh : EncodedLength.Statement .lmh := fun _ => ⟨_, _, rfl, rfl⟩

theorem EncodedLength.lml : EncodedLength.Statement .lml := fun _ => ⟨_, _, rfl, rfl⟩

theorem EncodedLength.lai (imm : Byte) : EncodedLength.Statement (.lai imm) := fun _ => ⟨_, _, rfl, rfl⟩

theorem EncodedLength.lbi (imm : Byte) : EncodedLength.Statement (.lbi imm) := fun _ => ⟨_, _, rfl, rfl⟩

theorem EncodedLength.lci (imm : Byte) : EncodedLength.Statement (.lci imm) := fun _ => ⟨_, _, rfl, rfl⟩

theorem EncodedLength.ldi (imm : Byte) : EncodedLength.Statement (.ldi imm) := fun _ => ⟨_, _, rfl, rfl⟩

theorem EncodedLength.lei (imm : Byte) : EncodedLength.Statement (.lei imm) := fun _ => ⟨_, _, rfl, rfl⟩

theorem EncodedLength.lhi (imm : Byte) : EncodedLength.Statement (.lhi imm) := fun _ => ⟨_, _, rfl, rfl⟩

theorem EncodedLength.lli (imm : Byte) : EncodedLength.Statement (.lli imm) := fun _ => ⟨_, _, rfl, rfl⟩

theorem EncodedLength.lmi (imm : Byte) : EncodedLength.Statement (.lmi imm) := fun _ => ⟨_, _, rfl, rfl⟩

theorem EncodedLength.ada : EncodedLength.Statement .ada := fun _ => ⟨_, _, rfl, rfl⟩

theorem EncodedLength.adb : EncodedLength.Statement .adb := fun _ => ⟨_, _, rfl, rfl⟩

theorem EncodedLength.adc : EncodedLength.Statement .adc := fun _ => ⟨_, _, rfl, rfl⟩

theorem EncodedLength.add : EncodedLength.Statement .add := fun _ => ⟨_, _, rfl, rfl⟩

theorem EncodedLength.ade : EncodedLength.Statement .ade := fun _ => ⟨_, _, rfl, rfl⟩

theorem EncodedLength.adh : EncodedLength.Statement .adh := fun _ => ⟨_, _, rfl, rfl⟩

theorem EncodedLength.adl : EncodedLength.Statement .adl := fun _ => ⟨_, _, rfl, rfl⟩

theorem EncodedLength.adm : EncodedLength.Statement .adm := fun _ => ⟨_, _, rfl, rfl⟩

theorem EncodedLength.adi (imm : Byte) : EncodedLength.Statement (.adi imm) := fun _ => ⟨_, _, rfl, rfl⟩

theorem EncodedLength.aca : EncodedLength.Statement .aca := fun _ => ⟨_, _, rfl, rfl⟩

theorem EncodedLength.acb : EncodedLength.Statement .acb := fun _ => ⟨_, _, rfl, rfl⟩

theorem EncodedLength.acc : EncodedLength.Statement .acc := fun _ => ⟨_, _, rfl, rfl⟩

theorem EncodedLength.acd : EncodedLength.Statement .acd := fun _ => ⟨_, _, rfl, rfl⟩

theorem EncodedLength.ace : EncodedLength.Statement .ace := fun _ => ⟨_, _, rfl, rfl⟩

theorem EncodedLength.ach : EncodedLength.Statement .ach := fun _ => ⟨_, _, rfl, rfl⟩

theorem EncodedLength.acl : EncodedLength.Statement .acl := fun _ => ⟨_, _, rfl, rfl⟩

theorem EncodedLength.acm : EncodedLength.Statement .acm := fun _ => ⟨_, _, rfl, rfl⟩

theorem EncodedLength.aci (imm : Byte) : EncodedLength.Statement (.aci imm) := fun _ => ⟨_, _, rfl, rfl⟩

theorem EncodedLength.sua : EncodedLength.Statement .sua := fun _ => ⟨_, _, rfl, rfl⟩

theorem EncodedLength.sub : EncodedLength.Statement .sub := fun _ => ⟨_, _, rfl, rfl⟩

theorem EncodedLength.suc : EncodedLength.Statement .suc := fun _ => ⟨_, _, rfl, rfl⟩

theorem EncodedLength.sud : EncodedLength.Statement .sud := fun _ => ⟨_, _, rfl, rfl⟩

theorem EncodedLength.sue : EncodedLength.Statement .sue := fun _ => ⟨_, _, rfl, rfl⟩

theorem EncodedLength.suh : EncodedLength.Statement .suh := fun _ => ⟨_, _, rfl, rfl⟩

theorem EncodedLength.sul : EncodedLength.Statement .sul := fun _ => ⟨_, _, rfl, rfl⟩

theorem EncodedLength.sum : EncodedLength.Statement .sum := fun _ => ⟨_, _, rfl, rfl⟩

theorem EncodedLength.sui (imm : Byte) : EncodedLength.Statement (.sui imm) := fun _ => ⟨_, _, rfl, rfl⟩

theorem EncodedLength.sba : EncodedLength.Statement .sba := fun _ => ⟨_, _, rfl, rfl⟩

theorem EncodedLength.sbb : EncodedLength.Statement .sbb := fun _ => ⟨_, _, rfl, rfl⟩

theorem EncodedLength.sbc : EncodedLength.Statement .sbc := fun _ => ⟨_, _, rfl, rfl⟩

theorem EncodedLength.sbd : EncodedLength.Statement .sbd := fun _ => ⟨_, _, rfl, rfl⟩

theorem EncodedLength.sbe : EncodedLength.Statement .sbe := fun _ => ⟨_, _, rfl, rfl⟩

theorem EncodedLength.sbh : EncodedLength.Statement .sbh := fun _ => ⟨_, _, rfl, rfl⟩

theorem EncodedLength.sbl : EncodedLength.Statement .sbl := fun _ => ⟨_, _, rfl, rfl⟩

theorem EncodedLength.sbm : EncodedLength.Statement .sbm := fun _ => ⟨_, _, rfl, rfl⟩

theorem EncodedLength.sbi (imm : Byte) : EncodedLength.Statement (.sbi imm) := fun _ => ⟨_, _, rfl, rfl⟩

theorem EncodedLength.nda : EncodedLength.Statement .nda := fun _ => ⟨_, _, rfl, rfl⟩

theorem EncodedLength.ndb : EncodedLength.Statement .ndb := fun _ => ⟨_, _, rfl, rfl⟩

theorem EncodedLength.ndc : EncodedLength.Statement .ndc := fun _ => ⟨_, _, rfl, rfl⟩

theorem EncodedLength.ndd : EncodedLength.Statement .ndd := fun _ => ⟨_, _, rfl, rfl⟩

theorem EncodedLength.nde : EncodedLength.Statement .nde := fun _ => ⟨_, _, rfl, rfl⟩

theorem EncodedLength.ndh : EncodedLength.Statement .ndh := fun _ => ⟨_, _, rfl, rfl⟩

theorem EncodedLength.ndl : EncodedLength.Statement .ndl := fun _ => ⟨_, _, rfl, rfl⟩

theorem EncodedLength.ndm : EncodedLength.Statement .ndm := fun _ => ⟨_, _, rfl, rfl⟩

theorem EncodedLength.ndi (imm : Byte) : EncodedLength.Statement (.ndi imm) := fun _ => ⟨_, _, rfl, rfl⟩

theorem EncodedLength.xra : EncodedLength.Statement .xra := fun _ => ⟨_, _, rfl, rfl⟩

theorem EncodedLength.xrb : EncodedLength.Statement .xrb := fun _ => ⟨_, _, rfl, rfl⟩

theorem EncodedLength.xrc : EncodedLength.Statement .xrc := fun _ => ⟨_, _, rfl, rfl⟩

theorem EncodedLength.xrd : EncodedLength.Statement .xrd := fun _ => ⟨_, _, rfl, rfl⟩

theorem EncodedLength.xre : EncodedLength.Statement .xre := fun _ => ⟨_, _, rfl, rfl⟩

theorem EncodedLength.xrh : EncodedLength.Statement .xrh := fun _ => ⟨_, _, rfl, rfl⟩

theorem EncodedLength.xrl : EncodedLength.Statement .xrl := fun _ => ⟨_, _, rfl, rfl⟩

theorem EncodedLength.xrm : EncodedLength.Statement .xrm := fun _ => ⟨_, _, rfl, rfl⟩

theorem EncodedLength.xri (imm : Byte) : EncodedLength.Statement (.xri imm) := fun _ => ⟨_, _, rfl, rfl⟩

theorem EncodedLength.ora : EncodedLength.Statement .ora := fun _ => ⟨_, _, rfl, rfl⟩

theorem EncodedLength.orb : EncodedLength.Statement .orb := fun _ => ⟨_, _, rfl, rfl⟩

theorem EncodedLength.orc : EncodedLength.Statement .orc := fun _ => ⟨_, _, rfl, rfl⟩

theorem EncodedLength.ord : EncodedLength.Statement .ord := fun _ => ⟨_, _, rfl, rfl⟩

theorem EncodedLength.ore : EncodedLength.Statement .ore := fun _ => ⟨_, _, rfl, rfl⟩

theorem EncodedLength.orh : EncodedLength.Statement .orh := fun _ => ⟨_, _, rfl, rfl⟩

theorem EncodedLength.orl : EncodedLength.Statement .orl := fun _ => ⟨_, _, rfl, rfl⟩

theorem EncodedLength.orm : EncodedLength.Statement .orm := fun _ => ⟨_, _, rfl, rfl⟩

theorem EncodedLength.ori (imm : Byte) : EncodedLength.Statement (.ori imm) := fun _ => ⟨_, _, rfl, rfl⟩

theorem EncodedLength.cpa : EncodedLength.Statement .cpa := fun _ => ⟨_, _, rfl, rfl⟩

theorem EncodedLength.cpb : EncodedLength.Statement .cpb := fun _ => ⟨_, _, rfl, rfl⟩

theorem EncodedLength.cpc : EncodedLength.Statement .cpc := fun _ => ⟨_, _, rfl, rfl⟩

theorem EncodedLength.cpd : EncodedLength.Statement .cpd := fun _ => ⟨_, _, rfl, rfl⟩

theorem EncodedLength.cpe : EncodedLength.Statement .cpe := fun _ => ⟨_, _, rfl, rfl⟩

theorem EncodedLength.cph : EncodedLength.Statement .cph := fun _ => ⟨_, _, rfl, rfl⟩

theorem EncodedLength.cpl : EncodedLength.Statement .cpl := fun _ => ⟨_, _, rfl, rfl⟩

theorem EncodedLength.cpm : EncodedLength.Statement .cpm := fun _ => ⟨_, _, rfl, rfl⟩

theorem EncodedLength.cpi (imm : Byte) : EncodedLength.Statement (.cpi imm) := fun _ => ⟨_, _, rfl, rfl⟩

theorem EncodedLength.inb : EncodedLength.Statement .inb := fun _ => ⟨_, _, rfl, rfl⟩

theorem EncodedLength.inc : EncodedLength.Statement .inc := fun _ => ⟨_, _, rfl, rfl⟩

theorem EncodedLength.ind : EncodedLength.Statement .ind := fun _ => ⟨_, _, rfl, rfl⟩

theorem EncodedLength.ine : EncodedLength.Statement .ine := fun _ => ⟨_, _, rfl, rfl⟩

theorem EncodedLength.inh : EncodedLength.Statement .inh := fun _ => ⟨_, _, rfl, rfl⟩

theorem EncodedLength.inl : EncodedLength.Statement .inl := fun _ => ⟨_, _, rfl, rfl⟩

theorem EncodedLength.dcb : EncodedLength.Statement .dcb := fun _ => ⟨_, _, rfl, rfl⟩

theorem EncodedLength.dcc : EncodedLength.Statement .dcc := fun _ => ⟨_, _, rfl, rfl⟩

theorem EncodedLength.dcd : EncodedLength.Statement .dcd := fun _ => ⟨_, _, rfl, rfl⟩

theorem EncodedLength.dce : EncodedLength.Statement .dce := fun _ => ⟨_, _, rfl, rfl⟩

theorem EncodedLength.dch : EncodedLength.Statement .dch := fun _ => ⟨_, _, rfl, rfl⟩

theorem EncodedLength.dcl : EncodedLength.Statement .dcl := fun _ => ⟨_, _, rfl, rfl⟩

theorem EncodedLength.unimpl_inm : EncodedLength.Statement .unimpl_inm := fun _ => ⟨_, _, rfl, rfl⟩

theorem EncodedLength.unimpl_dcm : EncodedLength.Statement .unimpl_dcm := fun _ => ⟨_, _, rfl, rfl⟩

theorem EncodedLength.rlc (x : BitVec 1) : EncodedLength.Statement (.rlc x) := fun _ => ⟨_, _, rfl, by revert x; decide⟩

theorem EncodedLength.rrc (x : BitVec 1) : EncodedLength.Statement (.rrc x) := fun _ => ⟨_, _, rfl, by revert x; decide⟩

theorem EncodedLength.ral (x : BitVec 1) : EncodedLength.Statement (.ral x) := fun _ => ⟨_, _, rfl, by revert x; decide⟩

theorem EncodedLength.rar (x : BitVec 1) : EncodedLength.Statement (.rar x) := fun _ => ⟨_, _, rfl, by revert x; decide⟩

theorem EncodedLength.jmp (x : BitVec 3) (lo : Byte) (hi : Byte) : EncodedLength.Statement (.jmp x lo hi) := fun _ => ⟨_, _, rfl, show 3 = _ by clear * -; revert x; decide⟩

theorem EncodedLength.jfc (lo : Byte) (hi : Byte) : EncodedLength.Statement (.jfc lo hi) := fun _ => ⟨_, _, rfl, rfl⟩

theorem EncodedLength.jfz (lo : Byte) (hi : Byte) : EncodedLength.Statement (.jfz lo hi) := fun _ => ⟨_, _, rfl, rfl⟩

theorem EncodedLength.jfs (lo : Byte) (hi : Byte) : EncodedLength.Statement (.jfs lo hi) := fun _ => ⟨_, _, rfl, rfl⟩

theorem EncodedLength.jfp (lo : Byte) (hi : Byte) : EncodedLength.Statement (.jfp lo hi) := fun _ => ⟨_, _, rfl, rfl⟩

theorem EncodedLength.jtc (lo : Byte) (hi : Byte) : EncodedLength.Statement (.jtc lo hi) := fun _ => ⟨_, _, rfl, rfl⟩

theorem EncodedLength.jtz (lo : Byte) (hi : Byte) : EncodedLength.Statement (.jtz lo hi) := fun _ => ⟨_, _, rfl, rfl⟩

theorem EncodedLength.jts (lo : Byte) (hi : Byte) : EncodedLength.Statement (.jts lo hi) := fun _ => ⟨_, _, rfl, rfl⟩

theorem EncodedLength.jtp (lo : Byte) (hi : Byte) : EncodedLength.Statement (.jtp lo hi) := fun _ => ⟨_, _, rfl, rfl⟩

theorem EncodedLength.cal (x : BitVec 3) (lo : Byte) (hi : Byte) : EncodedLength.Statement (.cal x lo hi) := fun _ => ⟨_, _, rfl, show 3 = _ by clear * -; revert x; decide⟩

theorem EncodedLength.cfc (lo : Byte) (hi : Byte) : EncodedLength.Statement (.cfc lo hi) := fun _ => ⟨_, _, rfl, rfl⟩

theorem EncodedLength.cfz (lo : Byte) (hi : Byte) : EncodedLength.Statement (.cfz lo hi) := fun _ => ⟨_, _, rfl, rfl⟩

theorem EncodedLength.cfs (lo : Byte) (hi : Byte) : EncodedLength.Statement (.cfs lo hi) := fun _ => ⟨_, _, rfl, rfl⟩

theorem EncodedLength.cfp (lo : Byte) (hi : Byte) : EncodedLength.Statement (.cfp lo hi) := fun _ => ⟨_, _, rfl, rfl⟩

theorem EncodedLength.ctc (lo : Byte) (hi : Byte) : EncodedLength.Statement (.ctc lo hi) := fun _ => ⟨_, _, rfl, rfl⟩

theorem EncodedLength.ctz (lo : Byte) (hi : Byte) : EncodedLength.Statement (.ctz lo hi) := fun _ => ⟨_, _, rfl, rfl⟩

theorem EncodedLength.cts (lo : Byte) (hi : Byte) : EncodedLength.Statement (.cts lo hi) := fun _ => ⟨_, _, rfl, rfl⟩

theorem EncodedLength.ctp (lo : Byte) (hi : Byte) : EncodedLength.Statement (.ctp lo hi) := fun _ => ⟨_, _, rfl, rfl⟩

theorem EncodedLength.ret (x : BitVec 3) : EncodedLength.Statement (.ret x) := fun _ => ⟨_, _, rfl, by revert x; decide⟩

theorem EncodedLength.rfc : EncodedLength.Statement .rfc := fun _ => ⟨_, _, rfl, rfl⟩

theorem EncodedLength.rfz : EncodedLength.Statement .rfz := fun _ => ⟨_, _, rfl, rfl⟩

theorem EncodedLength.rfs : EncodedLength.Statement .rfs := fun _ => ⟨_, _, rfl, rfl⟩

theorem EncodedLength.rfp : EncodedLength.Statement .rfp := fun _ => ⟨_, _, rfl, rfl⟩

theorem EncodedLength.rtc : EncodedLength.Statement .rtc := fun _ => ⟨_, _, rfl, rfl⟩

theorem EncodedLength.rtz : EncodedLength.Statement .rtz := fun _ => ⟨_, _, rfl, rfl⟩

theorem EncodedLength.rts : EncodedLength.Statement .rts := fun _ => ⟨_, _, rfl, rfl⟩

theorem EncodedLength.rtp : EncodedLength.Statement .rtp := fun _ => ⟨_, _, rfl, rfl⟩

theorem EncodedLength.rst_0 : EncodedLength.Statement .rst_0 := fun _ => ⟨_, _, rfl, rfl⟩

theorem EncodedLength.rst_1 : EncodedLength.Statement .rst_1 := fun _ => ⟨_, _, rfl, rfl⟩

theorem EncodedLength.rst_2 : EncodedLength.Statement .rst_2 := fun _ => ⟨_, _, rfl, rfl⟩

theorem EncodedLength.rst_3 : EncodedLength.Statement .rst_3 := fun _ => ⟨_, _, rfl, rfl⟩

theorem EncodedLength.rst_4 : EncodedLength.Statement .rst_4 := fun _ => ⟨_, _, rfl, rfl⟩

theorem EncodedLength.rst_5 : EncodedLength.Statement .rst_5 := fun _ => ⟨_, _, rfl, rfl⟩

theorem EncodedLength.rst_6 : EncodedLength.Statement .rst_6 := fun _ => ⟨_, _, rfl, rfl⟩

theorem EncodedLength.rst_7 : EncodedLength.Statement .rst_7 := fun _ => ⟨_, _, rfl, rfl⟩

theorem EncodedLength.inp_0 : EncodedLength.Statement .inp_0 := fun _ => ⟨_, _, rfl, rfl⟩

theorem EncodedLength.inp_1 : EncodedLength.Statement .inp_1 := fun _ => ⟨_, _, rfl, rfl⟩

theorem EncodedLength.inp_2 : EncodedLength.Statement .inp_2 := fun _ => ⟨_, _, rfl, rfl⟩

theorem EncodedLength.inp_3 : EncodedLength.Statement .inp_3 := fun _ => ⟨_, _, rfl, rfl⟩

theorem EncodedLength.inp_4 : EncodedLength.Statement .inp_4 := fun _ => ⟨_, _, rfl, rfl⟩

theorem EncodedLength.inp_5 : EncodedLength.Statement .inp_5 := fun _ => ⟨_, _, rfl, rfl⟩

theorem EncodedLength.inp_6 : EncodedLength.Statement .inp_6 := fun _ => ⟨_, _, rfl, rfl⟩

theorem EncodedLength.inp_7 : EncodedLength.Statement .inp_7 := fun _ => ⟨_, _, rfl, rfl⟩

theorem EncodedLength.out_8 : EncodedLength.Statement .out_8 := fun _ => ⟨_, _, rfl, rfl⟩

theorem EncodedLength.out_9 : EncodedLength.Statement .out_9 := fun _ => ⟨_, _, rfl, rfl⟩

theorem EncodedLength.out_10 : EncodedLength.Statement .out_10 := fun _ => ⟨_, _, rfl, rfl⟩

theorem EncodedLength.out_11 : EncodedLength.Statement .out_11 := fun _ => ⟨_, _, rfl, rfl⟩

theorem EncodedLength.out_12 : EncodedLength.Statement .out_12 := fun _ => ⟨_, _, rfl, rfl⟩

theorem EncodedLength.out_13 : EncodedLength.Statement .out_13 := fun _ => ⟨_, _, rfl, rfl⟩

theorem EncodedLength.out_14 : EncodedLength.Statement .out_14 := fun _ => ⟨_, _, rfl, rfl⟩

theorem EncodedLength.out_15 : EncodedLength.Statement .out_15 := fun _ => ⟨_, _, rfl, rfl⟩

theorem EncodedLength.out_16 : EncodedLength.Statement .out_16 := fun _ => ⟨_, _, rfl, rfl⟩

theorem EncodedLength.out_17 : EncodedLength.Statement .out_17 := fun _ => ⟨_, _, rfl, rfl⟩

theorem EncodedLength.out_18 : EncodedLength.Statement .out_18 := fun _ => ⟨_, _, rfl, rfl⟩

theorem EncodedLength.out_19 : EncodedLength.Statement .out_19 := fun _ => ⟨_, _, rfl, rfl⟩

theorem EncodedLength.out_20 : EncodedLength.Statement .out_20 := fun _ => ⟨_, _, rfl, rfl⟩

theorem EncodedLength.out_21 : EncodedLength.Statement .out_21 := fun _ => ⟨_, _, rfl, rfl⟩

theorem EncodedLength.out_22 : EncodedLength.Statement .out_22 := fun _ => ⟨_, _, rfl, rfl⟩

theorem EncodedLength.out_23 : EncodedLength.Statement .out_23 := fun _ => ⟨_, _, rfl, rfl⟩

theorem EncodedLength.out_24 : EncodedLength.Statement .out_24 := fun _ => ⟨_, _, rfl, rfl⟩

theorem EncodedLength.out_25 : EncodedLength.Statement .out_25 := fun _ => ⟨_, _, rfl, rfl⟩

theorem EncodedLength.out_26 : EncodedLength.Statement .out_26 := fun _ => ⟨_, _, rfl, rfl⟩

theorem EncodedLength.out_27 : EncodedLength.Statement .out_27 := fun _ => ⟨_, _, rfl, rfl⟩

theorem EncodedLength.out_28 : EncodedLength.Statement .out_28 := fun _ => ⟨_, _, rfl, rfl⟩

theorem EncodedLength.out_29 : EncodedLength.Statement .out_29 := fun _ => ⟨_, _, rfl, rfl⟩

theorem EncodedLength.out_30 : EncodedLength.Statement .out_30 := fun _ => ⟨_, _, rfl, rfl⟩

theorem EncodedLength.out_31 : EncodedLength.Statement .out_31 := fun _ => ⟨_, _, rfl, rfl⟩

theorem EncodedLength.hlt (op : Byte) : EncodedLength.Statement (.hlt op) := fun h => ⟨op, [], rfl, by
    rcases (show (op = 0x00#8 ∨ op = 0x01#8) ∨ op = 0xFF#8 by simpa [Instr.wellFormed] using h) with (rfl | rfl) | rfl <;> rfl⟩

end Sys2Proof.Laws
end

