-- ==== Sys2Proof/Laws/Shape.lean ====
section
/-! SUPPORT. What any instruction can do, said once: every `exec` answers a next state that is a run of at most
five transactions followed by updates of the core's fields, with the limits on those updates that hold for all
instructions; and what a fetch, a core step and a step can be. Statements about every instruction or every step
follow from these without a new case split. -/

namespace Sys2Proof.Laws

open Sys2Proof.Machine

/-- The limits on what `exec i s` may do beside the transactions `ts`: the fault latch stays or takes one of the
two opcodes (R172); the stack stays or one slot takes a 14-bit address (R24); the memory stays or `ts` ends in
a write cycle at the memory operand (R61); the whole cycle has at most eleven transactions. -/
structure Limits (i : Instr) (s : State) (ts : List Transaction) (stack : Vector Slot 8) (mem : Memory)
    (fault : FaultLatch) : Prop where
  fault : fault = s.fault ∨ fault = .unimplementedOpcode 0x38#8 ∨ fault = .unimplementedOpcode 0x39#8
  stack : stack = s.stack ∨ ∃ (j : BitVec 3) (a : Address), stack = s.stack.set j.toNat (a.zeroExtend 16) j.isLt
  mem : mem = s.mem ∨
    ∃ v pre x y z, mem = s.mem.write s.memAddr v ∧
      ts = pre ++ [⟨.t1, s.regs.l, x⟩, ⟨.t2, 0b11#2 ++ s.regs.h.extractLsb' 0 6, y⟩, ⟨.t3, v, z⟩]
  length : 3 * (encode i).length + ts.length ≤ 11

/-- An ALU operation writes nothing but registers and flags. -/
theorem aluWith_shape (op : AluOp) (b : Byte) (s : State) :
    ∃ g f, aluWith op b s =
      { s.perform [s.silent 0 .t4 b, s.silent 1 .t5 (aluResult (alu op s.regs.a b s.flags.c))] with regs := g, flags := f } := by
  rw [aluWith_eq]
  cases op <;> exact ⟨_, _, rfl⟩

/-- What any instruction does. -/
theorem exec_shape (i : Instr) (s : State) :
    ∃ ts regs flags stack sp mem run fault,
      exec i s =
        .next { s.perform ts with regs := regs, flags := flags, stack := stack, sp := sp, mem := mem, run := run, fault := fault } ∧
      Limits i s ts stack mem fault := by
  have quiet : ∀ ts n, (encode i).length = n → 3 * n + ts.length ≤ 11 → Limits i s ts s.stack s.mem s.fault :=
    fun ts n h1 h2 => ⟨.inl rfl, .inl rfl, .inl rfl, h1 ▸ h2⟩
  have idle : s = { s.perform [] with regs := s.regs, flags := s.flags, stack := s.stack, sp := s.sp, mem := s.mem, run := s.run, fault := s.fault } := by
    rw [State.perform_nil]
  cases family i with
  | load r q =>
    exact ⟨_, _, _, _, _, _, _, _, (exec_loadInstr ..).trans (congrArg _ (loadReg_some ..)),
      quiet _ 1 (by cases r <;> cases q <;> rfl) (by simp)⟩
  | loadMem r =>
    exact ⟨[_, _, _, _, _], _, _, _, _, _, _, _,
      (exec_loadMemInstr ..).trans (congrArg _ ((loadReg_none ..).trans
        (by rw [State.memRead_eq, State.perform_perform]; rfl))),
      quiet _ 1 (by cases r <;> rfl) (by simp)⟩
  | store r =>
    exact ⟨[_, _, _, _], _, _, _, _, _, _, _,
      (exec_storeInstr ..).trans (congrArg _ ((storeReg_eq ..).trans
        (by rw [State.memWrite_eq, State.perform_perform]; rfl))),
      .inl rfl, .inl rfl, .inr ⟨_, [_], _, _, _, rfl, rfl⟩, by cases r <;> exact Nat.le_of_ble_eq_true rfl⟩
  | loadImm r imm =>
    exact ⟨_, _, _, _, _, _, _, _, (exec_loadImmInstr ..).trans (congrArg _ (loadImm_eq ..)),
      quiet _ 2 (by cases r <;> rfl) (by simp)⟩
  | storeImm imm =>
    exact ⟨[_, _, _], _, _, _, _, _, _, _, congrArg _ (State.memWrite_eq s imm), .inl rfl, .inl rfl,
      .inr ⟨_, [], _, _, _, rfl, rfl⟩, Nat.le_of_ble_eq_true rfl⟩
  | aluReg op r =>
    obtain ⟨g, f, h⟩ := aluWith_shape op (s.regs.get r) s
    exact ⟨_, _, _, _, _, _, _, _, (exec_aluRegInstr ..).trans (congrArg _ h),
      quiet _ 1 (by cases op <;> cases r <;> rfl) (by simp)⟩
  | aluMem op =>
    have h : ∃ ts g f, aluFrom op none s = { s.perform ts with regs := g, flags := f } ∧ ts.length = 5 := by
      obtain ⟨g, f, h⟩ := aluWith_shape op s.memRead.1 s.memRead.2
      rw [State.memRead_eq, State.perform_perform] at h
      refine ⟨_, g, f, Eq.trans ?_ h, rfl⟩
      rw [aluFrom, State.readSel, State.memRead_eq]
    obtain ⟨ts, g, f, h, hn⟩ := h
    exact ⟨_, _, _, _, _, _, _, _, (exec_aluMemInstr ..).trans (congrArg _ h),
      quiet _ 1 (by cases op <;> rfl) (by omega)⟩
  | aluImm op imm =>
    obtain ⟨g, f, h⟩ := aluWith_shape op imm s
    exact ⟨_, _, _, _, _, _, _, _, (exec_aluImmInstr ..).trans (congrArg _ h), quiet _ 2 (by cases op <;> rfl) (by simp)⟩
  | inc r h =>
    exact ⟨_, _, _, _, _, _, _, _, (exec_incInstr r h ..).trans (congrArg _ (replaceReg_eq ..)),
      quiet _ 1 (by cases r <;> rfl) (by simp)⟩
  | dec r h =>
    exact ⟨_, _, _, _, _, _, _, _, (exec_decInstr r h ..).trans (congrArg _ (replaceReg_eq ..)),
      quiet _ 1 (by cases r <;> rfl) (by simp)⟩
  | unimplInc =>
    exact ⟨[], s.regs, s.flags, s.stack, s.sp, s.mem, s.run, _, by rw [State.perform_nil]; rfl, .inr (.inl rfl), .inl rfl,
      .inl rfl, by decide⟩
  | unimplDec =>
    exact ⟨[], s.regs, s.flags, s.stack, s.sp, s.mem, s.run, _, by rw [State.perform_nil]; rfl, .inr (.inr rfl), .inl rfl,
      .inl rfl, by decide⟩
  | rotate op x =>
    exact ⟨_, _, _, _, _, _, _, _, (exec_rotateInstr ..).trans (congrArg _ (rotate_eq ..)),
      quiet _ 1 (by cases op <;> rfl) (by simp)⟩
  | jmp x lo hi =>
    exact ⟨_, _, _, _, _, _, _, _, congrArg _ (congrArg (State.setPc · _) (State.showTarget_eq ..)), .inl rfl,
      .inr ⟨_, _, rfl⟩, .inl rfl, Nat.le_of_ble_eq_true rfl⟩
  | jumpIf t cc lo hi =>
    have hl : (encode (jumpIfInstr t cc lo hi)).length = 3 := by cases t <;> cases cc <;> rfl
    rw [exec_jumpIfInstr, jumpIf]
    split
    · exact ⟨_, _, _, _, _, _, _, _, congrArg _ (congrArg (State.setPc · _) (State.showTarget_eq ..)), .inl rfl,
        .inr ⟨_, _, rfl⟩, .inl rfl, by simp [hl]⟩
    · exact ⟨[], _, _, _, _, _, _, _, congrArg _ idle, quiet _ 3 hl (by simp)⟩
  | cal x lo hi =>
    exact ⟨_, _, _, _, _, _, _, _, congrArg _ (congrArg (State.push · _) (State.showTarget_eq ..)), .inl rfl,
      .inr ⟨_, _, rfl⟩, .inl rfl, Nat.le_of_ble_eq_true rfl⟩
  | callIf t cc lo hi =>
    have hl : (encode (callIfInstr t cc lo hi)).length = 3 := by cases t <;> cases cc <;> rfl
    rw [exec_callIfInstr, callIf]
    split
    · exact ⟨_, _, _, _, _, _, _, _, congrArg _ (congrArg (State.push · _) (State.showTarget_eq ..)), .inl rfl,
        .inr ⟨_, _, rfl⟩, .inl rfl, by simp [hl]⟩
    · exact ⟨[], _, _, _, _, _, _, _, congrArg _ idle, quiet _ 3 hl (by simp)⟩
  | ret x =>
    exact ⟨[_, _], _, _, _, _, _, _, _, congrArg _ (State.showTarget_eq s.pop _), quiet _ 1 rfl (by simp)⟩
  | returnIf t cc =>
    have hl : (encode (returnIfInstr t cc)).length = 1 := by cases t <;> cases cc <;> rfl
    rw [exec_returnIfInstr, returnIf]
    split
    · exact ⟨[_, _], _, _, _, _, _, _, _, congrArg _ (State.showTarget_eq s.pop _), quiet _ 1 hl (by simp)⟩
    · exact ⟨[], _, _, _, _, _, _, _, congrArg _ idle, quiet _ 1 hl (by simp)⟩
  | rst n =>
    refine ⟨_, _, _, _, _, _, _, _, (exec_rstInstr ..).trans (congrArg _ (restart_eq ..)), .inl rfl, .inr ⟨_, _, rfl⟩,
      .inl rfl, ?_⟩
    obtain ⟨k, hk, rfl⟩ := exists_ofNat n
    interval_cases k <;> exact Nat.le_of_ble_eq_true rfl
  | io p =>
    have hl : (encode (ioInstr p)).length = 1 := by
      obtain ⟨k, hk, rfl⟩ := exists_ofNat p
      interval_cases k <;> rfl
    rcases Nat.lt_or_ge p.toNat 8 with h | h
    · exact ⟨_, _, _, _, _, _, _, _, (exec_ioInstr_input _ h _).trans (congrArg _ (input_eq ..)), quiet _ 1 hl (by simp)⟩
    · exact ⟨_, _, _, _, _, _, _, _, (exec_ioInstr_output _ h _).trans (congrArg _ (output_eq ..)), quiet _ 1 hl (by simp)⟩
  | hlt op =>
    exact ⟨[_], _, _, _, _, _, _, _, congrArg _ (halt_eq s), quiet _ 1 rfl (by simp)⟩

/-! ## The instruction fetch and the step, opened once -/

/-- An opcode's length is that of the encoding of the instruction it begins. -/
theorem encode_instrOf_length (op b1 b2 : Byte) :
    (instrLength op = 1 ∧ (encode (instrOf op 0 0)).length = 1) ∨
    (instrLength op = 2 ∧ (encode (instrOf op b1 0)).length = 2) ∨
    (instrLength op = 3 ∧ (encode (instrOf op b1 b2)).length = 3) := by
  obtain ⟨k, hk, rfl⟩ := exists_ofNat op
  interval_cases k <;> first
    | exact .inl ⟨rfl, rfl⟩
    | exact .inr (.inl ⟨rfl, rfl⟩)
    | exact .inr (.inr ⟨rfl, rfl⟩)

/-- An instruction fetch, normal or forced, is three transactions for each byte of the instruction it yields, and
changes nothing else but the current slot. -/
theorem fetchInstr_shape (s : State) :
    ∃ ts stack,
      s.fetchInstr.2 = { s.perform ts with stack := stack } ∧
      (stack = s.stack ∨ ∃ (j : BitVec 3) (a : Address), stack = s.stack.set j.toNat (a.zeroExtend 16) j.isLt) ∧
      ts.length = 3 * (encode s.fetchInstr.1).length ∧ 1 ≤ (encode s.fetchInstr.1).length := by
  cases h : s.interruptCycle
  · rw [State.fetchInstr_normal s h]
    rcases encode_instrOf_length (s.fetchedByte 0) (s.fetchedByte 1) (s.fetchedByte 2) with h | h | h <;> simp only [h.1]
    · exact ⟨_, _, rfl, .inr ⟨_, _, rfl⟩, h.2.symm ▸ rfl, h.2.ge⟩
    · exact ⟨_, _, rfl, .inr ⟨_, _, rfl⟩, h.2.symm ▸ rfl, h.2.symm ▸ (by decide)⟩
    · exact ⟨_, _, rfl, .inr ⟨_, _, rfl⟩, h.2.symm ▸ rfl, h.2.symm ▸ (by decide)⟩
  · rw [State.fetchInstr_forced s h]
    rcases encode_instrOf_length s.forcedOpcode (s.forcedOperand 0) (s.forcedOperand 1) with h | h | h <;> simp only [h.1]
    · exact ⟨_, s.stack, rfl, .inl rfl, h.2.symm ▸ rfl, h.2.ge⟩
    · exact ⟨_, _, rfl, .inr ⟨_, _, rfl⟩, h.2.symm ▸ rfl, h.2.symm ▸ (by decide)⟩
    · exact ⟨_, _, rfl, .inr ⟨_, _, rfl⟩, h.2.symm ▸ rfl, h.2.symm ▸ (by decide)⟩

/-- Everything a core step that answers a next state can be: a STOPPED poll, or the fetch, the instruction and the
end of the cycle (R100). -/
theorem coreStep_cases {s t : State} (h : coreStep s = .next t) :
    s.fault = .none ∧
      ((s.run = .stopped ∧ t = s.stoppedPoll) ∨
        (s.run = .running ∧
          ∃ u, exec s.sampleInterrupt.fetchInstr.1 s.sampleInterrupt.fetchInstr.2 = .next u ∧ t = u.endCycle)) := by
  cases hf : s.fault with
  | unimplementedOpcode op => rw [coreStep_faulted _ _ hf] at h; cases h
  | none =>
    cases hr : s.run with
    | stopped =>
      rw [coreStep_stopped _ hf hr] at h
      cases h
      exact ⟨rfl, .inl ⟨rfl, rfl⟩⟩
    | running =>
      rw [coreStep_running _ hf hr] at h
      obtain ⟨_, _, _, _, _, _, _, _, hx, _⟩ := exec_shape s.sampleInterrupt.fetchInstr.1 s.sampleInterrupt.fetchInstr.2
      rw [hx] at h
      cases h
      exact ⟨rfl, .inr ⟨rfl, _, hx, rfl⟩⟩

/-- Everything a step that answers a next state can be: a core step with the turn used up, a request, a reset. -/
theorem step_cases {s t : State} (h : step s = .next t) :
    (s.coresTurn = true ∧ coreStep s.turnTaken = .next t) ∨
    (∃ rest, s.schedule = .requestInterrupt :: rest ∧ t = State.requestInterrupt { s with schedule := rest }) ∨
    (∃ rest, s.schedule = .reset :: rest ∧ t = State.resetCore { s with schedule := rest }) := by
  cases hc : s.coresTurn
  · unfold step at h
    split at h
    · rename_i e; simp [State.coresTurn, e] at hc
    · rename_i e; simp [State.coresTurn, e] at hc
    · rename_i rest e; cases h; exact .inr (.inl ⟨rest, e, rfl⟩)
    · rename_i rest e; cases h; exact .inr (.inr ⟨rest, e, rfl⟩)
  · rw [step_coresTurn s hc] at h
    exact .inl ⟨rfl, h⟩

end Sys2Proof.Laws
end

