-- ==== Sys2Proof/Tests/Slice0.lean ====
section
/-! SUPPORT. Tests: the words of spec/30_encoding and spec/opcode_table.json decoded, the worked examples and
derived vectors of spec/95_test_vectors, one step each, and a concrete witness for the hypotheses of each
statement that has some. No expected value is taken from the model. -/

namespace Sys2Proof.Tests

open Sys2Proof Sys2Proof.Machine

/-! ## Helpers -/

/-- The start state of 95_test_vectors: RUNNING, pc 0x0100, A=11 B=22 C=33 D=44 E=55 H=02 L=10, flags 0, the
given memory, which the vectors extend by memory[0x0210] = 0x99. -/
def start (mem : Memory) : State :=
  { State.reset with
    regs := ⟨0x11, 0x22, 0x33, 0x44, 0x55, 0x02, 0x10⟩
    stack := #v[0x0100, 0, 0, 0, 0, 0, 0, 0]
    run := .running
    mem := mem
    trace := [] }

/-- The start state with the given bytes at 0x0100. -/
def startAt (bytes : List Byte) : State :=
  start ((bytes.zipIdx.map (fun b => (0x100 + b.2, b.1))) ++ [(0x0210, 0x99)])

/-- What `f` sees in the next state; `none` where there is no next state. -/
def observe {α : Type} (f : State → α) : Result → Option α
  | .next t => some (f t)
  | .fault _ => none
  | .refused _ => none

/-- The flags in the order of 95_test_vectors: c z s p. -/
def czsp (f : Flags) : List Bool := [f.c, f.z, f.s, f.p]

/-- The trace without the answers. -/
def driven (s : State) : List (BusState × Byte) := s.trace.map (fun t => (t.phase, t.out))

/-- A script of `n` quiet replies, then one that answers `b`. -/
def answers (n : Nat) (b : Byte) : List Reply := List.replicate n ⟨none, false⟩ ++ [⟨some b, false⟩]

/-! ## WellFormed refuses each ill-formed term -/

theorem test_wellFormed_refuses_hlt_02 : (Instr.hlt 0x02#8).wellFormed = false := by decide
theorem test_wellFormed_refuses_hlt_FE : (Instr.hlt 0xFE#8).wellFormed = false := by decide
theorem test_wellFormed_accepts_hlt : (Instr.hlt 0x00#8).wellFormed = true ∧ (Instr.hlt 0xFF#8).wellFormed = true := by decide

/-! ## Decoding: every opcode byte, written out bit by bit as the `encoding` column of spec/opcode_table.json
gives it, operand bytes 0x34 and 0x12 -/

theorem test_decode_halt :
    decode [0b00000000#8] = .ok (.hlt 0b00000000#8, []) ∧
    decode [0b00000001#8] = .ok (.hlt 0b00000001#8, []) ∧
    decode [0b11111111#8] = .ok (.hlt 0b11111111#8, []) := by
  and_intros <;> rfl

theorem test_decode_rotate :
    decode [0b00000010#8] = .ok (.rlc 0b0#1, []) ∧
    decode [0b00001010#8] = .ok (.rrc 0b0#1, []) ∧
    decode [0b00010010#8] = .ok (.ral 0b0#1, []) ∧
    decode [0b00011010#8] = .ok (.rar 0b0#1, []) ∧
    decode [0b00100010#8] = .ok (.rlc 0b1#1, []) ∧
    decode [0b00101010#8] = .ok (.rrc 0b1#1, []) ∧
    decode [0b00110010#8] = .ok (.ral 0b1#1, []) ∧
    decode [0b00111010#8] = .ok (.rar 0b1#1, []) := by
  and_intros <;> rfl

theorem test_decode_return_restart_rfc :
    decode [0b00000011#8] = .ok (.rfc, []) ∧
    decode [0b00000101#8] = .ok (.rst_0, []) ∧
    decode [0b00000111#8] = .ok (.ret 0b000#3, []) ∧
    decode [0b00001011#8] = .ok (.rfz, []) ∧
    decode [0b00001101#8] = .ok (.rst_1, []) ∧
    decode [0b00001111#8] = .ok (.ret 0b001#3, []) ∧
    decode [0b00010011#8] = .ok (.rfs, []) ∧
    decode [0b00010101#8] = .ok (.rst_2, []) ∧
    decode [0b00010111#8] = .ok (.ret 0b010#3, []) ∧
    decode [0b00011011#8] = .ok (.rfp, []) ∧
    decode [0b00011101#8] = .ok (.rst_3, []) ∧
    decode [0b00011111#8] = .ok (.ret 0b011#3, []) ∧
    decode [0b00100011#8] = .ok (.rtc, []) ∧
    decode [0b00100101#8] = .ok (.rst_4, []) ∧
    decode [0b00100111#8] = .ok (.ret 0b100#3, []) ∧
    decode [0b00101011#8] = .ok (.rtz, []) := by
  and_intros <;> rfl

theorem test_decode_return_restart_rst_5 :
    decode [0b00101101#8] = .ok (.rst_5, []) ∧
    decode [0b00101111#8] = .ok (.ret 0b101#3, []) ∧
    decode [0b00110011#8] = .ok (.rts, []) ∧
    decode [0b00110101#8] = .ok (.rst_6, []) ∧
    decode [0b00110111#8] = .ok (.ret 0b110#3, []) ∧
    decode [0b00111011#8] = .ok (.rtp, []) ∧
    decode [0b00111101#8] = .ok (.rst_7, []) ∧
    decode [0b00111111#8] = .ok (.ret 0b111#3, []) := by
  and_intros <;> rfl

theorem test_decode_alu_adi :
    decode [0b00000100#8, 0x34#8] = .ok (.adi 0x34#8, []) ∧
    decode [0b00001100#8, 0x34#8] = .ok (.aci 0x34#8, []) ∧
    decode [0b00010100#8, 0x34#8] = .ok (.sui 0x34#8, []) ∧
    decode [0b00011100#8, 0x34#8] = .ok (.sbi 0x34#8, []) ∧
    decode [0b00100100#8, 0x34#8] = .ok (.ndi 0x34#8, []) ∧
    decode [0b00101100#8, 0x34#8] = .ok (.xri 0x34#8, []) ∧
    decode [0b00110100#8, 0x34#8] = .ok (.ori 0x34#8, []) ∧
    decode [0b00111100#8, 0x34#8] = .ok (.cpi 0x34#8, []) ∧
    decode [0b10000000#8] = .ok (.ada, []) ∧
    decode [0b10000001#8] = .ok (.adb, []) ∧
    decode [0b10000010#8] = .ok (.adc, []) ∧
    decode [0b10000011#8] = .ok (.add, []) ∧
    decode [0b10000100#8] = .ok (.ade, []) ∧
    decode [0b10000101#8] = .ok (.adh, []) ∧
    decode [0b10000110#8] = .ok (.adl, []) ∧
    decode [0b10000111#8] = .ok (.adm, []) := by
  and_intros <;> rfl

theorem test_decode_alu_aca :
    decode [0b10001000#8] = .ok (.aca, []) ∧
    decode [0b10001001#8] = .ok (.acb, []) ∧
    decode [0b10001010#8] = .ok (.acc, []) ∧
    decode [0b10001011#8] = .ok (.acd, []) ∧
    decode [0b10001100#8] = .ok (.ace, []) ∧
    decode [0b10001101#8] = .ok (.ach, []) ∧
    decode [0b10001110#8] = .ok (.acl, []) ∧
    decode [0b10001111#8] = .ok (.acm, []) ∧
    decode [0b10010000#8] = .ok (.sua, []) ∧
    decode [0b10010001#8] = .ok (.sub, []) ∧
    decode [0b10010010#8] = .ok (.suc, []) ∧
    decode [0b10010011#8] = .ok (.sud, []) ∧
    decode [0b10010100#8] = .ok (.sue, []) ∧
    decode [0b10010101#8] = .ok (.suh, []) ∧
    decode [0b10010110#8] = .ok (.sul, []) ∧
    decode [0b10010111#8] = .ok (.sum, []) := by
  and_intros <;> rfl

theorem test_decode_alu_sba :
    decode [0b10011000#8] = .ok (.sba, []) ∧
    decode [0b10011001#8] = .ok (.sbb, []) ∧
    decode [0b10011010#8] = .ok (.sbc, []) ∧
    decode [0b10011011#8] = .ok (.sbd, []) ∧
    decode [0b10011100#8] = .ok (.sbe, []) ∧
    decode [0b10011101#8] = .ok (.sbh, []) ∧
    decode [0b10011110#8] = .ok (.sbl, []) ∧
    decode [0b10011111#8] = .ok (.sbm, []) ∧
    decode [0b10100000#8] = .ok (.nda, []) ∧
    decode [0b10100001#8] = .ok (.ndb, []) ∧
    decode [0b10100010#8] = .ok (.ndc, []) ∧
    decode [0b10100011#8] = .ok (.ndd, []) ∧
    decode [0b10100100#8] = .ok (.nde, []) ∧
    decode [0b10100101#8] = .ok (.ndh, []) ∧
    decode [0b10100110#8] = .ok (.ndl, []) ∧
    decode [0b10100111#8] = .ok (.ndm, []) := by
  and_intros <;> rfl

theorem test_decode_alu_xra :
    decode [0b10101000#8] = .ok (.xra, []) ∧
    decode [0b10101001#8] = .ok (.xrb, []) ∧
    decode [0b10101010#8] = .ok (.xrc, []) ∧
    decode [0b10101011#8] = .ok (.xrd, []) ∧
    decode [0b10101100#8] = .ok (.xre, []) ∧
    decode [0b10101101#8] = .ok (.xrh, []) ∧
    decode [0b10101110#8] = .ok (.xrl, []) ∧
    decode [0b10101111#8] = .ok (.xrm, []) ∧
    decode [0b10110000#8] = .ok (.ora, []) ∧
    decode [0b10110001#8] = .ok (.orb, []) ∧
    decode [0b10110010#8] = .ok (.orc, []) ∧
    decode [0b10110011#8] = .ok (.ord, []) ∧
    decode [0b10110100#8] = .ok (.ore, []) ∧
    decode [0b10110101#8] = .ok (.orh, []) ∧
    decode [0b10110110#8] = .ok (.orl, []) ∧
    decode [0b10110111#8] = .ok (.orm, []) := by
  and_intros <;> rfl

theorem test_decode_alu_cpa :
    decode [0b10111000#8] = .ok (.cpa, []) ∧
    decode [0b10111001#8] = .ok (.cpb, []) ∧
    decode [0b10111010#8] = .ok (.cpc, []) ∧
    decode [0b10111011#8] = .ok (.cpd, []) ∧
    decode [0b10111100#8] = .ok (.cpe, []) ∧
    decode [0b10111101#8] = .ok (.cph, []) ∧
    decode [0b10111110#8] = .ok (.cpl, []) ∧
    decode [0b10111111#8] = .ok (.cpm, []) := by
  and_intros <;> rfl

theorem test_decode_load_lai :
    decode [0b00000110#8, 0x34#8] = .ok (.lai 0x34#8, []) ∧
    decode [0b00001110#8, 0x34#8] = .ok (.lbi 0x34#8, []) ∧
    decode [0b00010110#8, 0x34#8] = .ok (.lci 0x34#8, []) ∧
    decode [0b00011110#8, 0x34#8] = .ok (.ldi 0x34#8, []) ∧
    decode [0b00100110#8, 0x34#8] = .ok (.lei 0x34#8, []) ∧
    decode [0b00101110#8, 0x34#8] = .ok (.lhi 0x34#8, []) ∧
    decode [0b00110110#8, 0x34#8] = .ok (.lli 0x34#8, []) ∧
    decode [0b00111110#8, 0x34#8] = .ok (.lmi 0x34#8, []) ∧
    decode [0b11000000#8] = .ok (.laa, []) ∧
    decode [0b11000001#8] = .ok (.lab, []) ∧
    decode [0b11000010#8] = .ok (.lac, []) ∧
    decode [0b11000011#8] = .ok (.lad, []) ∧
    decode [0b11000100#8] = .ok (.lae, []) ∧
    decode [0b11000101#8] = .ok (.lah, []) ∧
    decode [0b11000110#8] = .ok (.lal, []) ∧
    decode [0b11000111#8] = .ok (.lam, []) := by
  and_intros <;> rfl

theorem test_decode_load_lba :
    decode [0b11001000#8] = .ok (.lba, []) ∧
    decode [0b11001001#8] = .ok (.lbb, []) ∧
    decode [0b11001010#8] = .ok (.lbc, []) ∧
    decode [0b11001011#8] = .ok (.lbd, []) ∧
    decode [0b11001100#8] = .ok (.lbe, []) ∧
    decode [0b11001101#8] = .ok (.lbh, []) ∧
    decode [0b11001110#8] = .ok (.lbl, []) ∧
    decode [0b11001111#8] = .ok (.lbm, []) ∧
    decode [0b11010000#8] = .ok (.lca, []) ∧
    decode [0b11010001#8] = .ok (.lcb, []) ∧
    decode [0b11010010#8] = .ok (.lcc, []) ∧
    decode [0b11010011#8] = .ok (.lcd, []) ∧
    decode [0b11010100#8] = .ok (.lce, []) ∧
    decode [0b11010101#8] = .ok (.lch, []) ∧
    decode [0b11010110#8] = .ok (.lcl, []) ∧
    decode [0b11010111#8] = .ok (.lcm, []) := by
  and_intros <;> rfl

theorem test_decode_load_lda :
    decode [0b11011000#8] = .ok (.lda, []) ∧
    decode [0b11011001#8] = .ok (.ldb, []) ∧
    decode [0b11011010#8] = .ok (.ldc, []) ∧
    decode [0b11011011#8] = .ok (.ldd, []) ∧
    decode [0b11011100#8] = .ok (.lde, []) ∧
    decode [0b11011101#8] = .ok (.ldh, []) ∧
    decode [0b11011110#8] = .ok (.ldl, []) ∧
    decode [0b11011111#8] = .ok (.ldm, []) ∧
    decode [0b11100000#8] = .ok (.lea, []) ∧
    decode [0b11100001#8] = .ok (.leb, []) ∧
    decode [0b11100010#8] = .ok (.lec, []) ∧
    decode [0b11100011#8] = .ok (.led, []) ∧
    decode [0b11100100#8] = .ok (.lee, []) ∧
    decode [0b11100101#8] = .ok (.leh, []) ∧
    decode [0b11100110#8] = .ok (.lel, []) ∧
    decode [0b11100111#8] = .ok (.lem, []) := by
  and_intros <;> rfl

theorem test_decode_load_lha :
    decode [0b11101000#8] = .ok (.lha, []) ∧
    decode [0b11101001#8] = .ok (.lhb, []) ∧
    decode [0b11101010#8] = .ok (.lhc, []) ∧
    decode [0b11101011#8] = .ok (.lhd, []) ∧
    decode [0b11101100#8] = .ok (.lhe, []) ∧
    decode [0b11101101#8] = .ok (.lhh, []) ∧
    decode [0b11101110#8] = .ok (.lhl, []) ∧
    decode [0b11101111#8] = .ok (.lhm, []) ∧
    decode [0b11110000#8] = .ok (.lla, []) ∧
    decode [0b11110001#8] = .ok (.llb, []) ∧
    decode [0b11110010#8] = .ok (.llc, []) ∧
    decode [0b11110011#8] = .ok (.lld, []) ∧
    decode [0b11110100#8] = .ok (.lle, []) ∧
    decode [0b11110101#8] = .ok (.llh, []) ∧
    decode [0b11110110#8] = .ok (.lll, []) ∧
    decode [0b11110111#8] = .ok (.llm, []) := by
  and_intros <;> rfl

theorem test_decode_load_lma :
    decode [0b11111000#8] = .ok (.lma, []) ∧
    decode [0b11111001#8] = .ok (.lmb, []) ∧
    decode [0b11111010#8] = .ok (.lmc, []) ∧
    decode [0b11111011#8] = .ok (.lmd, []) ∧
    decode [0b11111100#8] = .ok (.lme, []) ∧
    decode [0b11111101#8] = .ok (.lmh, []) ∧
    decode [0b11111110#8] = .ok (.lml, []) := by
  and_intros <;> rfl

theorem test_decode_incdec :
    decode [0b00001000#8] = .ok (.inb, []) ∧
    decode [0b00001001#8] = .ok (.dcb, []) ∧
    decode [0b00010000#8] = .ok (.inc, []) ∧
    decode [0b00010001#8] = .ok (.dcc, []) ∧
    decode [0b00011000#8] = .ok (.ind, []) ∧
    decode [0b00011001#8] = .ok (.dcd, []) ∧
    decode [0b00100000#8] = .ok (.ine, []) ∧
    decode [0b00100001#8] = .ok (.dce, []) ∧
    decode [0b00101000#8] = .ok (.inh, []) ∧
    decode [0b00101001#8] = .ok (.dch, []) ∧
    decode [0b00110000#8] = .ok (.inl, []) ∧
    decode [0b00110001#8] = .ok (.dcl, []) ∧
    decode [0b00111000#8] = .ok (.unimpl_inm, []) ∧
    decode [0b00111001#8] = .ok (.unimpl_dcm, []) := by
  and_intros <;> rfl

theorem test_decode_jump_call_jfc :
    decode [0b01000000#8, 0x34#8, 0x12#8] = .ok (.jfc 0x34#8 0x12#8, []) ∧
    decode [0b01000010#8, 0x34#8, 0x12#8] = .ok (.cfc 0x34#8 0x12#8, []) ∧
    decode [0b01000100#8, 0x34#8, 0x12#8] = .ok (.jmp 0b000#3 0x34#8 0x12#8, []) ∧
    decode [0b01000110#8, 0x34#8, 0x12#8] = .ok (.cal 0b000#3 0x34#8 0x12#8, []) ∧
    decode [0b01001000#8, 0x34#8, 0x12#8] = .ok (.jfz 0x34#8 0x12#8, []) ∧
    decode [0b01001010#8, 0x34#8, 0x12#8] = .ok (.cfz 0x34#8 0x12#8, []) ∧
    decode [0b01001100#8, 0x34#8, 0x12#8] = .ok (.jmp 0b001#3 0x34#8 0x12#8, []) ∧
    decode [0b01001110#8, 0x34#8, 0x12#8] = .ok (.cal 0b001#3 0x34#8 0x12#8, []) ∧
    decode [0b01010000#8, 0x34#8, 0x12#8] = .ok (.jfs 0x34#8 0x12#8, []) ∧
    decode [0b01010010#8, 0x34#8, 0x12#8] = .ok (.cfs 0x34#8 0x12#8, []) ∧
    decode [0b01010100#8, 0x34#8, 0x12#8] = .ok (.jmp 0b010#3 0x34#8 0x12#8, []) ∧
    decode [0b01010110#8, 0x34#8, 0x12#8] = .ok (.cal 0b010#3 0x34#8 0x12#8, []) ∧
    decode [0b01011000#8, 0x34#8, 0x12#8] = .ok (.jfp 0x34#8 0x12#8, []) ∧
    decode [0b01011010#8, 0x34#8, 0x12#8] = .ok (.cfp 0x34#8 0x12#8, []) ∧
    decode [0b01011100#8, 0x34#8, 0x12#8] = .ok (.jmp 0b011#3 0x34#8 0x12#8, []) ∧
    decode [0b01011110#8, 0x34#8, 0x12#8] = .ok (.cal 0b011#3 0x34#8 0x12#8, []) := by
  and_intros <;> rfl

theorem test_decode_jump_call_jtc :
    decode [0b01100000#8, 0x34#8, 0x12#8] = .ok (.jtc 0x34#8 0x12#8, []) ∧
    decode [0b01100010#8, 0x34#8, 0x12#8] = .ok (.ctc 0x34#8 0x12#8, []) ∧
    decode [0b01100100#8, 0x34#8, 0x12#8] = .ok (.jmp 0b100#3 0x34#8 0x12#8, []) ∧
    decode [0b01100110#8, 0x34#8, 0x12#8] = .ok (.cal 0b100#3 0x34#8 0x12#8, []) ∧
    decode [0b01101000#8, 0x34#8, 0x12#8] = .ok (.jtz 0x34#8 0x12#8, []) ∧
    decode [0b01101010#8, 0x34#8, 0x12#8] = .ok (.ctz 0x34#8 0x12#8, []) ∧
    decode [0b01101100#8, 0x34#8, 0x12#8] = .ok (.jmp 0b101#3 0x34#8 0x12#8, []) ∧
    decode [0b01101110#8, 0x34#8, 0x12#8] = .ok (.cal 0b101#3 0x34#8 0x12#8, []) ∧
    decode [0b01110000#8, 0x34#8, 0x12#8] = .ok (.jts 0x34#8 0x12#8, []) ∧
    decode [0b01110010#8, 0x34#8, 0x12#8] = .ok (.cts 0x34#8 0x12#8, []) ∧
    decode [0b01110100#8, 0x34#8, 0x12#8] = .ok (.jmp 0b110#3 0x34#8 0x12#8, []) ∧
    decode [0b01110110#8, 0x34#8, 0x12#8] = .ok (.cal 0b110#3 0x34#8 0x12#8, []) ∧
    decode [0b01111000#8, 0x34#8, 0x12#8] = .ok (.jtp 0x34#8 0x12#8, []) ∧
    decode [0b01111010#8, 0x34#8, 0x12#8] = .ok (.ctp 0x34#8 0x12#8, []) ∧
    decode [0b01111100#8, 0x34#8, 0x12#8] = .ok (.jmp 0b111#3 0x34#8 0x12#8, []) ∧
    decode [0b01111110#8, 0x34#8, 0x12#8] = .ok (.cal 0b111#3 0x34#8 0x12#8, []) := by
  and_intros <;> rfl

theorem test_decode_io_inp_0 :
    decode [0b01000001#8] = .ok (.inp_0, []) ∧
    decode [0b01000011#8] = .ok (.inp_1, []) ∧
    decode [0b01000101#8] = .ok (.inp_2, []) ∧
    decode [0b01000111#8] = .ok (.inp_3, []) ∧
    decode [0b01001001#8] = .ok (.inp_4, []) ∧
    decode [0b01001011#8] = .ok (.inp_5, []) ∧
    decode [0b01001101#8] = .ok (.inp_6, []) ∧
    decode [0b01001111#8] = .ok (.inp_7, []) ∧
    decode [0b01010001#8] = .ok (.out_8, []) ∧
    decode [0b01010011#8] = .ok (.out_9, []) ∧
    decode [0b01010101#8] = .ok (.out_10, []) ∧
    decode [0b01010111#8] = .ok (.out_11, []) ∧
    decode [0b01011001#8] = .ok (.out_12, []) ∧
    decode [0b01011011#8] = .ok (.out_13, []) ∧
    decode [0b01011101#8] = .ok (.out_14, []) ∧
    decode [0b01011111#8] = .ok (.out_15, []) := by
  and_intros <;> rfl

theorem test_decode_io_out_16 :
    decode [0b01100001#8] = .ok (.out_16, []) ∧
    decode [0b01100011#8] = .ok (.out_17, []) ∧
    decode [0b01100101#8] = .ok (.out_18, []) ∧
    decode [0b01100111#8] = .ok (.out_19, []) ∧
    decode [0b01101001#8] = .ok (.out_20, []) ∧
    decode [0b01101011#8] = .ok (.out_21, []) ∧
    decode [0b01101101#8] = .ok (.out_22, []) ∧
    decode [0b01101111#8] = .ok (.out_23, []) ∧
    decode [0b01110001#8] = .ok (.out_24, []) ∧
    decode [0b01110011#8] = .ok (.out_25, []) ∧
    decode [0b01110101#8] = .ok (.out_26, []) ∧
    decode [0b01110111#8] = .ok (.out_27, []) ∧
    decode [0b01111001#8] = .ok (.out_28, []) ∧
    decode [0b01111011#8] = .ok (.out_29, []) ∧
    decode [0b01111101#8] = .ok (.out_30, []) ∧
    decode [0b01111111#8] = .ok (.out_31, []) := by
  and_intros <;> rfl

/-! ## Decoding: what is refused, and the table's words -/

theorem test_decode_refuses_empty : decode [] = .error .empty := by rfl
theorem test_decode_refuses_truncated :
    decode [0x44#8, 0x34#8] = .error (.truncated 0x44#8) ∧ decode [0x06#8] = .error (.truncated 0x06#8) := by and_intros <;> rfl
theorem test_decodeTableWord :
    decodeTableWord 8 0xC1 = some .lab ∧ decodeTableWord 8 0x3A = some (.rar 1#1) ∧
    decodeTableWord 16 0x2004 = some (.adi 0x20#8) ∧ decodeTableWord 24 0x123468 = some (.jtz 0x34#8 0x12#8) ∧
    decodeTableWord 8 0x38 = some .unimpl_inm := by and_intros <;> rfl

/-! ## `withFetchWord`: the next step runs the word, from reset -/

theorem test_withFetchWord_lai :
    observe (fun t => (t.regs.a, t.pc)) (step (State.reset.withFetchWord 16 0x4206)) = some (0x42#8, 0x0002#14) := by rfl
theorem test_withFetchWord_jmp :
    observe (fun t => (t.pc, t.mem)) (step (State.reset.withFetchWord 24 0x123444)) =
      some (0x1234#14, [(0, 0x44#8), (1, 0x34#8), (2, 0x12#8)]) := by rfl

/-! ## Reset (R38, R260): `State.reset` is what `Reset()` leaves under a quiet poll -/

theorem test_reset_is_resetCore :
    { (start []).resetCore with mem := [] } = State.reset := by rfl
theorem test_reset_memory_canonical : State.reset.mem.wf = true := by decide
theorem test_reset_step_polls : observe (fun t => (t.run, driven t)) (step State.reset) =
    some (.stopped, [(.stopped, 0x00#8), (.stopped, 0x00#8)]) := by rfl

/-- An answer the core ignores (R51) is the script's byte, else the free value, one for each transaction (log 4). -/
theorem test_ignored_answers : observe (fun t => t.trace.map Transaction.inp)
    (step { startAt [0xC1] with script := [⟨none, false⟩, ⟨some 0x7E, false⟩] }) =
      some [Config.freeAnswer 0, 0x7E#8, 0xC1#8, Config.freeAnswer 3, Config.freeAnswer 4] := by rfl

/-! ## Worked examples S1 to S6 of 95_test_vectors, part 1 -/

theorem test_S1_adi : observe (fun t => (t.regs.a, czsp t.flags, t.pc, driven t))
    (step { startAt [0x04, 0x20] with regs := ⟨0xF0, 0x22, 0x33, 0x44, 0x55, 0x02, 0x10⟩ }) =
      some (0x10#8, [true, false, false, false], 0x0102#14,
        [(.t1, 0x00#8), (.t2, 0x01#8), (.t3, 0x00#8), (.t1, 0x01#8), (.t2, 0x81#8), (.t3, 0x00#8), (.t4, 0x20#8), (.t5, 0x10#8)]) := by rfl
theorem test_S2_inb : observe (fun t => (t.regs.b, czsp t.flags))
    (step { startAt [0x08] with regs := ⟨0x11, 0xFF, 0x33, 0x44, 0x55, 0x02, 0x10⟩, flags := ⟨true, false, false, false⟩ }) =
      some (0x00#8, [true, true, false, true]) := by rfl
theorem test_S3_jtz_not_taken : observe (fun t => (t.pc, t.mem, driven t)) (step (startAt [0x68, 0x34, 0x12])) =
      some (0x0103#14, (startAt [0x68, 0x34, 0x12]).mem,
        [(.t1, 0x00#8), (.t2, 0x01#8), (.t3, 0x00#8), (.t1, 0x01#8), (.t2, 0x81#8), (.t3, 0x00#8), (.t1, 0x02#8), (.t2, 0x81#8),
          (.t3, 0x00#8)]) := by rfl
theorem test_S4_cal_from_7_wraps : observe (fun t => (t.sp, t.slot 7, t.slot 0))
    (step { startAt [0x46, 0x00, 0x02] with sp := 7, stack := #v[0, 0, 0, 0, 0, 0, 0, 0x0100] }) =
      some (0#3, 0x0103#16, 0x0200#16) := by rfl
theorem test_S5_hlt_FF : observe (fun t => (t.run, t.pc, driven t)) (step (startAt [0xFF])) =
      some (.stopped, 0x0101#14, [(.t1, 0x00#8), (.t2, 0x01#8), (.t3, 0x00#8), (.stopped, 0x00#8)]) := by rfl
theorem test_S6_forced_rst_1 : observe (fun t => (t.slot 0, t.sp, t.pc, t.interruptRequest, t.interruptCycle, driven t))
    (step { startAt [0xC1] with interruptRequest := true, script := answers 2 0x0D }) =
      some (0x0100#16, 1#3, 0x0008#14, false, false,
        [(.t1I, 0x00#8), (.t2, 0x01#8), (.t3, 0x00#8), (.t4, 0x00#8), (.t5, 0x08#8)]) := by rfl
theorem test_S6_forced_lab : observe (fun t => (t.regs.a, t.pc))
    (step { startAt [0x00] with interruptRequest := true, script := answers 2 0xC1 }) = some (0x22#8, 0x0100#14) := by rfl

/-! ## Derived vectors of 95_test_vectors, part 2 -/

theorem test_lcm : observe (fun t => (t.regs.c, driven t)) (step (startAt [0xD7])) =
    some (0x99#8, [(.t1, 0x00#8), (.t2, 0x01#8), (.t3, 0x00#8), (.t1, 0x10#8), (.t2, 0x82#8), (.t3, 0x00#8), (.t4, 0x99#8),
      (.t5, 0x99#8)]) := by rfl
theorem test_lmd : observe (fun t => (t.mem.read 0x0210, driven t)) (step (startAt [0xFB])) =
    some (0x44#8, [(.t1, 0x00#8), (.t2, 0x01#8), (.t3, 0x00#8), (.t4, 0x44#8), (.t1, 0x10#8), (.t2, 0xC2#8), (.t3, 0x44#8)]) := by rfl
theorem test_lmi : observe (fun t => (t.mem.read 0x0210, t.pc, driven t)) (step (startAt [0x3E, 0xA5])) =
    some (0xA5#8, 0x0102#14, [(.t1, 0x00#8), (.t2, 0x01#8), (.t3, 0x00#8), (.t1, 0x01#8), (.t2, 0x81#8), (.t3, 0x00#8),
      (.t1, 0x10#8), (.t2, 0xC2#8), (.t3, 0xA5#8)]) := by rfl
theorem test_lam_ignores_high_bits_of_h : observe (fun t => (t.regs.a, t.regs.h))
    (step { start [(0x100, 0xC7), (0x210, 0x77)] with regs := ⟨0, 0, 0, 0, 0, 0xC2, 0x10⟩ }) = some (0x77#8, 0xC2#8) := by rfl
theorem test_lhm_uses_old_h : observe (fun t => (t.regs.h, t.pc)) (step (startAt [0xEF])) = some (0x99#8, 0x0101#14) := by rfl
theorem test_lai_pc_wraps : observe (fun t => (t.regs.a, t.pc, driven t))
    (step { start [(0x0000, 0x42), (0x3FFF, 0x06)] with stack := #v[0x3FFF, 0, 0, 0, 0, 0, 0, 0] }) =
      some (0x42#8, 0x0001#14, [(.t1, 0xFF#8), (.t2, 0x3F#8), (.t3, 0x00#8), (.t1, 0x00#8), (.t2, 0x80#8), (.t3, 0x00#8),
        (.t4, 0x42#8), (.t5, 0x42#8)]) := by rfl

/-- `A op b` with carry-in `c`: A and the flags after the immediate form. -/
def aluVector (i : Byte → Instr) (a b : Byte) (c : Bool) : Option (Byte × List Bool) :=
  observe (fun t => (t.regs.a, czsp t.flags))
    (exec (i b) { start [] with regs := ⟨a, 0, 0, 0, 0, 0, 0⟩, flags := ⟨c, false, false, false⟩ })

theorem test_adi_ignores_carry : aluVector .adi 0x55 0xAA true = some (0xFF#8, [false, false, true, true]) := by rfl
theorem test_aci_with_carry : aluVector .aci 0x55 0xAA true = some (0x00#8, [true, true, false, true]) := by rfl
theorem test_aci_ff_ff : aluVector .aci 0xFF 0xFF true = some (0xFF#8, [true, false, true, true]) := by rfl
theorem test_sui_borrow : aluVector .sui 0x10 0x20 false = some (0xF0#8, [true, false, true, true]) := by rfl
theorem test_sbi_borrow : aluVector .sbi 0x00 0x00 true = some (0xFF#8, [true, false, true, true]) := by rfl
theorem test_sbi_ff_ff : aluVector .sbi 0xFF 0xFF true = some (0xFF#8, [true, false, true, true]) := by rfl
theorem test_ndi_keeps_carry : aluVector .ndi 0xFF 0x0F true = some (0x0F#8, [true, false, false, true]) := by rfl
theorem test_xri_keeps_carry : aluVector .xri 0x80 0x01 true = some (0x81#8, [true, false, true, true]) := by rfl
theorem test_ori_keeps_carry : aluVector .ori 0x10 0x10 true = some (0x10#8, [true, false, false, false]) := by rfl
theorem test_cpi_less : aluVector .cpi 0x10 0x20 false = some (0x10#8, [true, false, true, true]) := by rfl
theorem test_cpi_ignores_carry : aluVector .cpi 0xFF 0xFF true = some (0xFF#8, [false, true, false, true]) := by rfl
theorem test_adb : observe (fun t => (t.regs.a, czsp t.flags, driven t)) (step (startAt [0x81])) =
    some (0x33#8, [false, false, false, true],
      [(.t1, 0x00#8), (.t2, 0x01#8), (.t3, 0x00#8), (.t4, 0x22#8), (.t5, 0x33#8)]) := by rfl
theorem test_adm : observe (fun t => (t.regs.a, czsp t.flags, driven t)) (step (startAt [0x87])) =
    some (0xAA#8, [false, false, true, true],
      [(.t1, 0x00#8), (.t2, 0x01#8), (.t3, 0x00#8), (.t1, 0x10#8), (.t2, 0x82#8), (.t3, 0x00#8), (.t4, 0x99#8), (.t5, 0xAA#8)]) := by rfl
theorem test_dch : observe (fun t => (t.regs.h, czsp t.flags, driven t)) (step (startAt [0x29])) =
    some (0x01#8, [false, false, false, false],
      [(.t1, 0x00#8), (.t2, 0x01#8), (.t3, 0x00#8), (.t4, 0x02#8), (.t5, 0x01#8)]) := by rfl
theorem test_unimplemented_38 : observe (fun t => (t.fault, t.pc, t.regs, driven t)) (step (startAt [0x38])) =
    some (.unimplementedOpcode 0x38#8, 0x0101#14, (startAt []).regs, [(.t1, 0x00#8), (.t2, 0x01#8), (.t3, 0x00#8)]) := by rfl
theorem test_unimplemented_39 : observe (fun t => (t.fault, t.pc)) (step (startAt [0x39])) =
    some (.unimplementedOpcode 0x39#8, 0x0101#14) := by rfl

/-- A and the flags after a rotate of `a` with carry-in `c`, the other flags z=1 s=0 p=1. -/
def rotateVector (i : BitVec 1 → Instr) (a : Byte) (c : Bool) : Option (Byte × List Bool) :=
  observe (fun t => (t.regs.a, czsp t.flags))
    (exec (i 1) { start [] with regs := ⟨a, 0, 0, 0, 0, 0, 0⟩, flags := ⟨c, true, false, true⟩ })

theorem test_rlc : rotateVector .rlc 0x81 false = some (0x03#8, [true, true, false, true]) := by rfl
theorem test_rrc : rotateVector .rrc 0x81 false = some (0xC0#8, [true, true, false, true]) := by rfl
theorem test_ral : rotateVector .ral 0x80 true = some (0x01#8, [true, true, false, true]) := by rfl
theorem test_rar : rotateVector .rar 0x01 false = some (0x00#8, [true, true, false, true]) := by rfl

theorem test_jmp_masks_high_byte : observe (fun t => (t.pc, t.sp, driven t)) (step (startAt [0x44, 0x34, 0xD2])) =
    some (0x1234#14, 0#3, [(.t1, 0x00#8), (.t2, 0x01#8), (.t3, 0x00#8), (.t1, 0x01#8), (.t2, 0x81#8), (.t3, 0x00#8),
      (.t1, 0x02#8), (.t2, 0x81#8), (.t3, 0x00#8), (.t4, 0x12#8), (.t5, 0x34#8)]) := by rfl
theorem test_cal : observe (fun t => (t.sp, t.slot 0, t.slot 1)) (step (startAt [0x46, 0x00, 0x02])) =
    some (1#3, 0x0103#16, 0x0200#16) := by rfl
theorem test_cfc_not_taken : observe (fun t => (t.sp, t.pc))
    (step { startAt [0x42, 0x00, 0x02] with flags := ⟨true, false, false, false⟩ }) = some (0#3, 0x0103#14) := by rfl
theorem test_ret_from_0_wraps : observe (fun t => (t.sp, t.pc, t.slot 0, driven t))
    (step { startAt [0x07] with stack := #v[0x0100, 0, 0, 0, 0, 0, 0, 0x0ABC] }) =
      some (7#3, 0x0ABC#14, 0x0101#16,
        [(.t1, 0x00#8), (.t2, 0x01#8), (.t3, 0x00#8), (.t4, 0x0A#8), (.t5, 0xBC#8)]) := by rfl
theorem test_rtc_not_taken : observe (fun t => (t.sp, t.pc, driven t)) (step (startAt [0x23])) =
    some (0#3, 0x0101#14, [(.t1, 0x00#8), (.t2, 0x01#8), (.t3, 0x00#8)]) := by rfl
theorem test_rst_5 : observe (fun t => (t.sp, t.slot 0, t.pc, driven t)) (step (startAt [0x2D])) =
    some (1#3, 0x0101#16, 0x0028#14,
      [(.t1, 0x00#8), (.t2, 0x01#8), (.t3, 0x00#8), (.t4, 0x00#8), (.t5, 0x28#8)]) := by rfl

/-- The taking flag of each of the sixteen conditions (95_test_vectors 2.5): c, z, s, p 0, then 1. -/
theorem test_conditions :
    (observe State.pc (exec (.jfc 0x34 0x12) { start [] with flags := ⟨false, true, true, true⟩ }) = some 0x1234#14) ∧
    (observe State.pc (exec (.jfz 0x34 0x12) { start [] with flags := ⟨true, false, true, true⟩ }) = some 0x1234#14) ∧
    (observe State.pc (exec (.jfs 0x34 0x12) { start [] with flags := ⟨true, true, false, true⟩ }) = some 0x1234#14) ∧
    (observe State.pc (exec (.jfp 0x34 0x12) { start [] with flags := ⟨true, true, true, false⟩ }) = some 0x1234#14) ∧
    (observe State.pc (exec (.jtc 0x34 0x12) { start [] with flags := ⟨true, false, false, false⟩ }) = some 0x1234#14) ∧
    (observe State.pc (exec (.jtz 0x34 0x12) { start [] with flags := ⟨false, true, false, false⟩ }) = some 0x1234#14) ∧
    (observe State.pc (exec (.jts 0x34 0x12) { start [] with flags := ⟨false, false, true, false⟩ }) = some 0x1234#14) ∧
    (observe State.pc (exec (.jtp 0x34 0x12) { start [] with flags := ⟨false, false, false, true⟩ }) = some 0x1234#14) := by
  and_intros <;> rfl

theorem test_inp_3 : observe (fun t => (t.regs.a, czsp t.flags, driven t))
    (step { startAt [0x47] with script := answers 5 0x5A }) =
      some (0x5A#8, [false, false, false, false], [(.t1, 0x00#8), (.t2, 0x01#8), (.t3, 0x00#8), (.t1, 0x11#8), (.t2, 0x47#8),
        (.t3, 0x00#8), (.t4, 0x00#8), (.t5, 0x5A#8)]) := by rfl
theorem test_inp_0_flag_byte : observe (fun t => (t.regs.a, czsp t.flags, driven t))
    (step { startAt [0x41] with flags := ⟨true, false, true, true⟩, script := answers 5 0x00 }) =
      some (0x00#8, [true, false, true, true], [(.t1, 0x00#8), (.t2, 0x01#8), (.t3, 0x00#8), (.t1, 0x11#8), (.t2, 0x41#8),
        (.t3, 0x00#8), (.t4, 0x0D#8), (.t5, 0x00#8)]) := by rfl
theorem test_out_17 : observe (fun t => (t.regs, t.pc, driven t)) (step (startAt [0x63])) =
    some ((startAt []).regs, 0x0101#14,
      [(.t1, 0x00#8), (.t2, 0x01#8), (.t3, 0x00#8), (.t1, 0x11#8), (.t2, 0x63#8), (.wait, 0x11#8)]) := by rfl
theorem test_hlt_request_in_poll : observe (fun t => (t.run, t.interruptRequest, t.pc))
    (step { startAt [0x00] with script := List.replicate 3 ⟨none, false⟩ ++ [⟨none, true⟩] }) =
      some (.running, true, 0x0101#14) := by rfl
theorem test_stopped_step_with_request : observe (fun t => (t.run, t.interruptRequest, driven t))
    (step { start [] with run := .stopped, script := [⟨none, true⟩] }) = some (.running, true, [(.stopped, 0x00#8)]) := by rfl
theorem test_forced_cal : observe (fun t => (t.sp, t.slot 0, t.pc))
    (step { startAt [0x34, 0x12] with interruptRequest := true, script := answers 2 0x46 }) =
      some (1#3, 0x0102#16, 0x1234#14) := by rfl

/-! ## Witnesses: a concrete state and operands that meet the hypotheses of each statement that has some -/

theorem test_witness_DecodeInvertsEncode : Instr.lab.wellFormed = true ∧ (Instr.hlt 0xFF#8).wellFormed = true := by decide
theorem test_witness_EncodeInvertsDecode :
    decode [0x3F#8, 0xAA#8] = .ok (.ret 7#3, [0xAA#8]) ∧ decode [0xFF#8] = .ok (.hlt 0xFF#8, []) := by and_intros <;> rfl
theorem test_witness_LengthFollowsOpcode :
    decode [0x40#8, 0x34#8, 0x12#8] = .ok (.jfc 0x34#8 0x12#8, []) ∧ decode [0x7E#8, 0x34#8, 0x12#8] = .ok (.cal 7#3 0x34#8 0x12#8, []) ∧
    decode [0x04#8, 0x34#8, 0x12#8] = .ok (.adi 0x34#8, [0x12#8]) ∧ decode [0x3E#8, 0x34#8, 0x12#8] = .ok (.lmi 0x34#8, [0x12#8]) ∧
    decode [0x7F#8, 0x34#8, 0x12#8] = .ok (.out_31, [0x34#8, 0x12#8]) ∧ decode [0x3F#8, 0x34#8, 0x12#8] = .ok (.ret 7#3, [0x34#8, 0x12#8]) := by
  and_intros <;> rfl
theorem test_witness_StepRunsDecodedInstruction :
    let s : State := { startAt [0x44, 0x34, 0xD2] with schedule := [.core, .reset] }
    s.coresTurn = true ∧ (startAt []).coresTurn = true ∧ s.fault = .none ∧ s.run = .running ∧ s.interruptRequest = false ∧ s.interruptCycle = false ∧
      decode [s.fetchedByte 0, s.fetchedByte 1, s.fetchedByte 2] = .ok (.jmp 0#3 0x34#8 0xD2#8, []) ∧
      (Instr.jmp 0#3 0x34#8 0xD2#8).wellFormed = true := by and_intros <;> rfl
theorem test_witness_ForcedStepRunsSuppliedInstruction :
    let s : State := { startAt [0x34, 0x12] with interruptRequest := true, script := answers 2 0x46, schedule := [.core, .requestInterrupt] }
    s.coresTurn = true ∧ s.fault = .none ∧ s.run = .running ∧ s.interruptRequest = true ∧
      decode [s.forcedOpcode, s.forcedOperand 0, s.forcedOperand 1] = .ok (.cal 0#3 0x34#8 0x12#8, []) := by and_intros <;> rfl
theorem test_witness_StoppedCorePolls :
    State.reset.coresTurn = true ∧ State.coresTurn { State.reset with schedule := [.core] } = true ∧ State.reset.fault = .none ∧ State.reset.run = .stopped := by and_intros <;> rfl

/-- The start state with a faulted core and a schedule. -/
def faulted (schedule : List Turn) : State := { start [] with fault := .unimplementedOpcode 0x38#8, schedule := schedule }

theorem test_witness_FaultedCoreMakesNoStep :
    (∀ l, (faulted l).fault = .unimplementedOpcode 0x38#8 ∧ (faulted l).schedule = l) ∧
      step (faulted []) = .fault (.coreFaulted 0x38#8) ∧ step (faulted [.core]) = .fault (.coreFaulted 0x38#8) ∧
      observe (fun t => (t.fault, t.interruptRequest)) (step (faulted [.requestInterrupt])) =
        some (.unimplementedOpcode 0x38#8, true) ∧
      observe State.fault (step (faulted [.reset])) = some .none := by
  refine ⟨fun _ => ⟨rfl, rfl⟩, ?_⟩
  and_intros <;> rfl
theorem test_witness_ScheduledTurnIsTaken :
    observe State.schedule (step { startAt [0xC1] with schedule := [.core, .reset] }) = some [.reset] ∧
      observe State.schedule (step (startAt [0xC1])) = some [] ∧
      observe State.schedule (step (faulted [.requestInterrupt, .reset])) = some [.reset] ∧
      observe State.schedule (step (faulted [.reset, .core])) = some [.core] := by and_intros <;> rfl
theorem test_witness_ResetReplacesTheCore : (faulted [.reset, .core]).schedule = .reset :: [.core] := by rfl
theorem test_witness_StoppedCoreWakesOnlyByRequest :
    ∃ t, step { State.reset with script := [⟨none, true⟩] } = .next t ∧
      State.run { State.reset with script := [⟨none, true⟩] } = .stopped ∧ t.run = .running := ⟨_, rfl, rfl, rfl⟩
theorem test_witness_InstructionsKeepAPendingRequest :
    (∃ t, exec .lab { start [] with interruptRequest := true } = .next t ∧
      State.interruptRequest { start [] with interruptRequest := true } = true) ∧
    observe State.interruptRequest (step { startAt [] with interruptRequest := true, script := answers 2 0xC1 }) = some false ∧
    observe State.interruptRequest (step { faulted [.reset] with interruptRequest := true }) = some false :=
  ⟨⟨_, rfl, rfl⟩, rfl, rfl⟩
theorem test_witness_EveryTransactionIsTracedOnce :
    ∃ t, step { startAt [0x47] with script := answers 5 0x5A } = .next t ∧ t.script = [] ∧ t.trace.length = 8 := ⟨_, rfl, rfl, rfl⟩
theorem test_witness_RunningStepHasThreeToElevenTransactions :
    (startAt [0x44]).coresTurn = true ∧ (startAt [0x44]).fault = .none ∧ (startAt [0x44]).run = .running ∧
      observe (fun t => t.trace.length) (step (startAt [0x44])) = some 11 ∧
      observe (fun t => t.trace.length) (step (startAt [0x03])) = some 5 ∧
      observe (fun t => t.trace.length) (step (startAt [0x23])) = some 3 := by and_intros <;> rfl
theorem test_witness_StepKeepsLegalStates : (startAt [0xFB]).Inv ∧ ∃ t, step (startAt [0xFB]) = .next t := ⟨by decide, _, rfl⟩
theorem test_witness_StoppedCoreKeepsProgramState :
    State.reset.run = .stopped ∧ ∃ t, coreStep State.reset = .next t := ⟨rfl, _, rfl⟩
theorem test_witness_MemoryChangesOnlyByWriteCycle :
    (∃ t, exec (.lmi 0xA5#8) (startAt []) = .next t ∧ t.mem ≠ (startAt []).mem ∧ (0x0211#14 : Address) ≠ (startAt []).memAddr) ∧
    (∃ t, step (startAt [0xFB]) = .next t ∧ t.mem = (startAt [0xFB]).mem.write 0x0210#14 0x44#8 ∧ t.mem ≠ (startAt [0xFB]).mem) ∧
    ∃ t, step { startAt [0xFB] with schedule := [.reset] } = .next t ∧ t.mem = (startAt [0xFB]).mem :=
  ⟨⟨_, rfl, by decide, by decide⟩, ⟨_, rfl, rfl, by decide⟩, ⟨_, rfl, rfl⟩⟩
theorem test_witness_OnlyFlagWritersChangeFlags :
    (∃ t, exec (.rrc 0#1) (start []) = .next t ∧ encode (.rrc 0#1) = [0x0A#8] ∧ t.flags.c ≠ (start []).flags.c) ∧
    (∃ t, exec .dcb { start [] with regs := ⟨0, 1, 0, 0, 0, 0, 0⟩ } = .next t ∧ encode .dcb = [0x09#8] ∧
      (t.flags.z, t.flags.s, t.flags.p) ≠ ((start []).flags.z, (start []).flags.s, (start []).flags.p)) :=
  ⟨⟨_, rfl, rfl, by decide⟩, ⟨_, rfl, rfl, by decide⟩⟩
theorem test_witness_OnlyCallsReturnsRestartsMoveTheIndex :
    (∃ t, exec (.cal 0#3 0x34#8 0x12#8) (start []) = .next t ∧ encode (.cal 0#3 0x34#8 0x12#8) = [0x46#8, 0x34#8, 0x12#8] ∧
      t.sp ≠ (start []).sp) ∧
    (∃ t, exec .rst_7 (start []) = .next t ∧ encode .rst_7 = [0x3D#8] ∧ t.sp ≠ (start []).sp) ∧
    (∃ t, exec (.ret 0#3) (start []) = .next t ∧ encode (.ret 0#3) = [0x07#8] ∧ t.sp ≠ (start []).sp) :=
  ⟨⟨_, rfl, rfl, by decide⟩, ⟨_, rfl, rfl, by decide⟩, ⟨_, rfl, rfl, by decide⟩⟩
theorem test_witness_ReadAfterWriteGivesTheByte : Memory.wf [(0x0210, 0x99#8), (0x3FFF, 0x01#8)] = true := by decide
theorem test_witness_WriteLeavesOtherBytes : (0x0211#14 : Address) ≠ 0x0210#14 := by decide
theorem test_witness_CanonicalMemoriesAreEqualData :
    Memory.wf [(0x0210, 0x99#8)] = true ∧ Memory.wf ((Memory.write [] 0x3FFF#14 0x00#8).write 0x0210#14 0x99#8) = true ∧
      ∀ a : Address, Memory.read [(0x0210, 0x99#8)] a = Memory.read ((Memory.write [] 0x3FFF#14 0x00#8).write 0x0210#14 0x99#8) a :=
  ⟨by decide, by decide, fun _ => rfl⟩
theorem test_witness_SubtractThenAddRestoresA :
    Reg.b ≠ .a ∧
    (∃ t u, exec (aluRegInstr .sub .b) (start []) = .next t ∧ exec (aluRegInstr .add .b) t = .next u ∧ t.regs.a = 0xEF#8) ∧
    (∃ t u, exec (.sui 0x12#8) (start []) = .next t ∧ exec (.adi 0x12#8) t = .next u ∧ t.regs.a = 0xFF#8) :=
  ⟨by decide, ⟨_, _, rfl, rfl, rfl⟩, ⟨_, _, rfl, rfl, rfl⟩⟩
theorem test_witness_CarryFormsWithCarryClear : (start []).flags.c = false := by rfl
theorem test_witness_IncrementAndDecrementKeepCarry : Reg.b ≠ .a ∧ Reg.l ≠ .a := by decide
theorem test_witness_StoreLeavesOtherBytes :
    (0x0211#14 : Address) ≠ BitVec.ofNat 14 ((start []).regs.h.toNat % 64 * 256 + (start []).regs.l.toNat) := by decide
theorem test_witness_CallKeepsOtherSlots : (0#3 : BitVec 3) ≠ (start []).sp + 1 := by decide
theorem test_witness_RestartPushesItsVector :
    ∃ t u, exec (rstInstr 5#3) (start []) = .next t ∧ exec (.ret 0#3) t = .next u ∧ u.pc = 0x0100#14 := ⟨_, _, rfl, rfl, rfl⟩
theorem test_witness_NestedPushesWrapAtEight : (List.replicate 7 (0x0200#14 : Address)).length = 7 := by decide
theorem test_witness_ForcedRestartSavesInterruptedAddress :
    let s : State := { startAt [0xC1] with interruptRequest := true, script := answers 2 0x0D, schedule := [.core, .reset] }
    s.coresTurn = true ∧ s.fault = .none ∧ s.run = .running ∧ s.interruptRequest = true ∧
      s.forcedOpcode = 0b00#2 ++ 1#3 ++ 0b101#3 := by and_intros <;> rfl
theorem test_witness_OutputDrivesAOnly : 8 ≤ (8#5 : BitVec 5).toNat ∧ 8 ≤ (31#5 : BitVec 5).toNat := by decide
theorem test_witness_MemoryIsWhatTheTraceWrote :
    (startAt [0xFB]).mem = Memory.replay (startAt [0xFB]).mem (startAt [0xFB]).trace ∧
    ∃ t, step (startAt [0xFB]) = .next t ∧ t.mem = (startAt [0xFB]).mem.write 0x0210#14 0x44#8 ∧
      t.mem = Memory.replay (startAt [0xFB]).mem t.trace := ⟨rfl, _, rfl, rfl, rfl⟩
theorem test_witness_ColdStartFromAnyState :
    let s : State := { faulted [.reset, .core] with script := ⟨none, true⟩ :: answers 2 0x0D }
    s.schedule = .reset :: [.core] ∧ State.coresTurn { s with schedule := [.core] } = true ∧ (s.replyAt 0).request = true ∧
      s.answerAt 3 (Config.freeOpcode (s.trace.length + 3)) = 0b00#2 ++ 1#3 ++ 0b101#3 := by and_intros <;> rfl

end Sys2Proof.Tests
end

section
/-! What every step does to the environment of R9, whoever moves: the trace, the script, the schedule and the
memory of the next state, said once by the relation `BusRun`. From it follow the trace as a log of transactions
(O17), the memory as what that log wrote (O58), and the schedule used up turn by turn (O11). -/

namespace Sys2Proof.Machine

/-! ## Transactions that write nothing -/

/-- The transactions do not go on with a machine cycle that began before them: they are none, or the first is
neither T2 nor T3. -/
def BeginsFresh (ts : List Transaction) : Prop := ∀ x ∈ ts.head?, x.phase ≠ .t2 ∧ x.phase ≠ .t3

/-- A write cycle begins with T1. -/
theorem writeCycle_of_phase_ne_t1 {x : Transaction} (ts : List Transaction) (h : x.phase ≠ .t1) :
    writeCycle (x :: ts) = none := by
  rcases x with ⟨p, o, i⟩
  cases p
  case t1 => exact absurd rfl h
  all_goals rfl

/-- A cycle whose T2 carries another tag than that of a data write writes nothing (R56). -/
theorem writeCycle_of_tag_ne_write {tag : BitVec 2} (h : tag ≠ 0b11#2) (first : BusState) (low i j : Byte)
    (high : BitVec 6) (ts : List Transaction) : writeCycle (⟨first, low, i⟩ :: ⟨.t2, tag ++ high, j⟩ :: ts) = none := by
  unfold writeCycle
  split
  case h_1 heq =>
    cases heq
    exact if_neg (by rwa [BitVec.extractLsb'_append_eq_left])
  case h_2 => rfl

theorem Memory.replay_cons_of_writeCycle_none (m : Memory) {x : Transaction} {ts : List Transaction}
    (h : writeCycle (x :: ts) = none) : m.replay (x :: ts) = m.replay ts := by
  rw [Memory.replay, h]

/-- Without a T1 no write cycle begins. -/
theorem Memory.replay_of_no_t1 (m : Memory) {ts : List Transaction} (h : ∀ x ∈ ts, x.phase ≠ .t1) : m.replay ts = m := by
  induction ts with
  | nil => rfl
  | cons x ts ih =>
    obtain ⟨hx, hts⟩ := List.forall_mem_cons.1 h
    rw [m.replay_cons_of_writeCycle_none (writeCycle_of_phase_ne_t1 ts hx), ih hts]

/-- A cycle that is not a data write, and what follows it without a T1, writes nothing. -/
theorem Memory.replay_of_tag_ne_write (m : Memory) {tag : BitVec 2} (h : tag ≠ 0b11#2) (first : BusState) (low i j : Byte)
    (high : BitVec 6) {ts : List Transaction} (hts : ∀ x ∈ ts, x.phase ≠ .t1) :
    m.replay (⟨first, low, i⟩ :: ⟨.t2, tag ++ high, j⟩ :: ts) = m := by
  rw [m.replay_cons_of_writeCycle_none (writeCycle_of_tag_ne_write h ..),
    m.replay_of_no_t1 (List.forall_mem_cons.2 ⟨by simp, hts⟩)]

/-- A data-write cycle writes its byte at the address it drives (R56, R61). -/
theorem Memory.replay_writeCycle (m : Memory) (low v i j k : Byte) (high : BitVec 6) :
    m.replay [⟨.t1, low, i⟩, ⟨.t2, 0b11#2 ++ high, j⟩, ⟨.t3, v, k⟩] = m.write (high ++ low) v := by
  have hw : writeCycle [⟨.t1, low, i⟩, ⟨.t2, 0b11#2 ++ high, j⟩, ⟨.t3, v, k⟩] = some (high ++ low, v) := by
    rw [writeCycle, BitVec.extractLsb'_append_eq_left, BitVec.extractLsb'_append_eq_right, if_pos rfl]
  rw [Memory.replay, hw]
  exact (m.write _ v).replay_of_no_t1 (by simp)

/-! ## The relation, and what keeps it -/

/-- From `s` to `t` the environment has seen some transactions, begun afresh, and nothing else: they stand at the
end of the trace, as many replies are used up, no turn is taken, and memory has taken what their write cycles
wrote. Of the core's fields it says nothing. -/
def BusRun (s t : State) : Prop :=
  ∃ ts, t.trace = s.trace ++ ts ∧ t.script = s.script.drop ts.length ∧ t.schedule = s.schedule ∧ BeginsFresh ts ∧
    t.mem = s.mem.replay ts

theorem BusRun.refl (s : State) : BusRun s s := ⟨[], by simp, rfl, rfl, nofun, rfl⟩

theorem BusRun.trans {s t u : State} : BusRun s t → BusRun t u → BusRun s u := by
  rintro ⟨ts, htrace, hscript, hschedule, hfresh, hmem⟩ ⟨us, utrace, uscript, uschedule, ufresh, umem⟩
  refine ⟨ts ++ us, ?_, ?_, uschedule.trans hschedule, ?_, ?_⟩
  · rw [utrace, htrace, List.append_assoc]
  · rw [uscript, hscript, List.drop_drop, List.length_append]
  · cases ts with
    | nil => exact ufresh
    | cons => exact hfresh
  · rw [umem, hmem, Memory.replay_append us ufresh]

/-! Only the environment's fields matter. -/

@[simp] theorem BusRun.setReg_iff {s t : State} (i : Reg) (v : Byte) : BusRun s (t.setReg i v) ↔ BusRun s t := Iff.rfl
@[simp] theorem BusRun.setFlags_iff {s t : State} (f : Flags) : BusRun s (t.setFlags f) ↔ BusRun s t := Iff.rfl
@[simp] theorem BusRun.setPc_iff {s t : State} (a : Address) : BusRun s (t.setPc a) ↔ BusRun s t := Iff.rfl
@[simp] theorem BusRun.push_iff {s t : State} (a : Address) : BusRun s (t.push a) ↔ BusRun s t := Iff.rfl
@[simp] theorem BusRun.pop_left_iff {s t : State} : BusRun s.pop t ↔ BusRun s t := Iff.rfl
@[simp] theorem BusRun.endCycle_iff {s t : State} : BusRun s t.endCycle ↔ BusRun s t := Iff.rfl
@[simp] theorem BusRun.requestInterrupt_iff {s t : State} : BusRun s t.requestInterrupt ↔ BusRun s t := Iff.rfl
@[simp] theorem BusRun.raiseUnimplemented_iff {s t : State} (op : Byte) : BusRun s (t.raiseUnimplemented op) ↔ BusRun s t :=
  Iff.rfl

@[simp] theorem BusRun.sampleInterrupt_left_iff {s t : State} : BusRun s.sampleInterrupt t ↔ BusRun s t := by
  unfold State.sampleInterrupt
  split <;> rfl

/-! ## Runs of transactions -/

/-- Transactions that write nothing and begin afresh. -/
theorem BusRun.perform {s : State} {ts : List Transaction} (hfresh : BeginsFresh ts) (hmem : s.mem.replay ts = s.mem) :
    BusRun s (s.perform ts) := ⟨ts, rfl, rfl, rfl, hfresh, hmem.symm⟩

/-- The cycle of a fetch, a read or a command, and what follows it in one instruction. -/
theorem BusRun.perform_cycle (s : State) {first : BusState} (hfirst : first = .t1 ∨ first = .t1I) {tag : BitVec 2}
    (htag : tag ≠ 0b11#2) (low i j : Byte) (high : BitVec 6) {ts : List Transaction} (hts : ∀ x ∈ ts, x.phase ≠ .t1) :
    BusRun s (s.perform (⟨first, low, i⟩ :: ⟨.t2, tag ++ high, j⟩ :: ts)) := by
  refine .perform ?_ (Memory.replay_of_tag_ne_write _ htag _ _ _ _ _ hts)
  rcases hfirst with rfl | rfl <;> simp [BeginsFresh]

/-- One transaction outside the machine cycles: T4, T5, STOPPED. -/
theorem BusRun.bus {s t : State} (h : BusRun s t) {p : BusState} (hp : p = .t4 ∨ p = .t5 ∨ p = .stopped) (out : Byte) :
    BusRun s (t.bus p out) := by
  rw [State.bus_eq]
  refine h.trans (.perform ?_ (Memory.replay_of_no_t1 _ ?_)) <;>
    rcases hp with rfl | rfl | rfl <;> simp [BeginsFresh, State.silent]

theorem BusRun.visible_t4 {s t : State} (h : BusRun s t) (out : Byte) : BusRun s (t.visible .t4 out) :=
  h.bus (.inl rfl) out

theorem BusRun.visible_t5 {s t : State} (h : BusRun s t) (out : Byte) : BusRun s (t.visible .t5 out) :=
  h.bus (.inr (.inl rfl)) out

/-! ## Machine cycles -/

theorem fetchOpcode_busRun (s : State) : BusRun s s.fetchOpcode.2 := by
  cases h : s.interruptCycle
  · rw [State.fetchOpcode_normal s h]
    exact .perform_cycle s (.inl rfl) (by decide) _ _ _ _ (by simp)
  · rw [State.fetchOpcode_forced s h]
    exact .perform_cycle s (.inr rfl) (by decide) _ _ _ _ (by simp)

theorem readImm_busRun (s : State) : BusRun s s.readImm.2 := by
  rw [State.readImm_eq]
  exact .perform_cycle s (.inl rfl) (by decide) _ _ _ _ (by simp)

theorem memRead_busRun (s : State) : BusRun s s.memRead.2 := by
  rw [State.memRead_eq]
  exact .perform_cycle s (.inl rfl) (by decide) _ _ _ _ (by simp)

theorem memWrite_busRun (s : State) (v : Byte) : BusRun s (s.memWrite v) := by
  rw [State.memWrite_eq]
  exact ⟨_, rfl, rfl, rfl, by simp [BeginsFresh, State.silent], (Memory.replay_writeCycle ..).symm⟩

theorem stoppedPoll_busRun (s : State) : BusRun s s.stoppedPoll := by
  have h : BusRun s (s.bus .stopped Config.stoppedOut) := (BusRun.refl s).bus (.inr (.inr rfl)) _
  simp only [State.stoppedPoll]
  split <;> exact h

/-- The reset replaces no field of the environment before its poll (R260). -/
theorem resetCore_busRun (s : State) : BusRun s s.resetCore := by
  refine BusRun.trans ?_ (stoppedPoll_busRun _)
  exact .refl s

theorem fetchInstr_busRun (s : State) : BusRun s s.fetchInstr.2 := by
  simp only [State.fetchInstr]
  split
  · exact fetchOpcode_busRun s
  · exact (fetchOpcode_busRun s).trans (readImm_busRun _)
  · exact ((fetchOpcode_busRun s).trans (readImm_busRun _)).trans (readImm_busRun _)

/-! ## The meanings, by shared operation -/

theorem readSel_busRun (src : Option Reg) (s : State) : BusRun s (s.readSel src).2 := by
  cases src with
  | some r => exact .refl s
  | none => exact memRead_busRun s

theorem loadReg_busRun (dst : Reg) (src : Option Reg) (s : State) : BusRun s (loadReg dst src s) :=
  (BusRun.setReg_iff ..).2 (((readSel_busRun src s).visible_t4 _).visible_t5 _)

theorem storeReg_busRun (src : Reg) (s : State) : BusRun s (storeReg src s) :=
  ((BusRun.refl s).visible_t4 _).trans (memWrite_busRun _ _)

theorem loadImm_busRun (dst : Reg) (imm : Byte) (s : State) : BusRun s (loadImm dst imm s) :=
  (BusRun.setReg_iff ..).2 (((BusRun.refl s).visible_t4 imm).visible_t5 imm)

theorem aluWith_busRun (op : AluOp) (b : Byte) (s : State) : BusRun s (aluWith op b s) := by
  refine BusRun.visible_t5 ?_ _
  have h : BusRun s (s.visible .t4 b) := (BusRun.refl s).visible_t4 b
  split <;> simpa using h

theorem aluFrom_busRun (op : AluOp) (src : Option Reg) (s : State) : BusRun s (aluFrom op src s) :=
  (readSel_busRun src s).trans (aluWith_busRun ..)

theorem replaceReg_busRun (dst : Reg) (res : Byte) (s : State) : BusRun s (replaceReg dst res s) :=
  .visible_t5 (by simpa using (BusRun.refl s).visible_t4 _) res

theorem rotate_busRun (op : RotateOp) (s : State) : BusRun s (rotate op s) :=
  .visible_t5 (by simpa using (BusRun.refl s).visible_t4 _) _

theorem showTarget_busRun (s : State) (a : Address) : BusRun s (s.showTarget a) :=
  ((BusRun.refl s).visible_t4 _).visible_t5 _

theorem jumpTo_busRun (a : Address) (s : State) : BusRun s (jumpTo a s) :=
  (BusRun.setPc_iff a).2 (showTarget_busRun s a)

theorem callTo_busRun (a : Address) (s : State) : BusRun s (callTo a s) :=
  (BusRun.push_iff a).2 (showTarget_busRun s a)

theorem returnNow_busRun (s : State) : BusRun s (returnNow s) :=
  BusRun.pop_left_iff.1 (showTarget_busRun s.pop _)

theorem jumpIf_busRun (sense : Bool) (cc : Condition) (a : Address) (s : State) : BusRun s (jumpIf sense cc a s) := by
  unfold jumpIf
  split
  · exact jumpTo_busRun a s
  · exact .refl s

theorem callIf_busRun (sense : Bool) (cc : Condition) (a : Address) (s : State) : BusRun s (callIf sense cc a s) := by
  unfold callIf
  split
  · exact callTo_busRun a s
  · exact .refl s

theorem returnIf_busRun (sense : Bool) (cc : Condition) (s : State) : BusRun s (returnIf sense cc s) := by
  unfold returnIf
  split
  · exact returnNow_busRun s
  · exact .refl s

theorem restart_busRun (n : BitVec 3) (s : State) : BusRun s (restart n s) :=
  (((BusRun.push_iff _).2 (.refl s)).visible_t4 _).visible_t5 _

theorem input_busRun (p : BitVec 5) (s : State) : BusRun s (input p s) := by
  rw [input_eq]
  exact .perform_cycle s (.inl rfl) (by decide) _ _ _ _ (by simp [State.silent])

theorem output_busRun (p : BitVec 5) (s : State) : BusRun s (output p s) := by
  rw [output_eq]
  exact .perform_cycle s (.inl rfl) (by decide) _ _ _ _ (by simp [State.silent])

theorem halt_busRun (s : State) : BusRun s (halt s) := stoppedPoll_busRun { s with run := .stopped }

end Sys2Proof.Machine

namespace Sys2Proof.Laws

open Sys2Proof.Machine

/-! ## Every instruction and every step -/

theorem exec_busRun (i : Instr) (s : State) : ∃ t, exec i s = .next t ∧ BusRun s t := by
  cases family i with
  | load dst src => exact ⟨_, exec_loadInstr .., loadReg_busRun ..⟩
  | loadMem dst => exact ⟨_, exec_loadMemInstr .., loadReg_busRun ..⟩
  | store src => exact ⟨_, exec_storeInstr .., storeReg_busRun ..⟩
  | loadImm dst imm => exact ⟨_, exec_loadImmInstr .., loadImm_busRun ..⟩
  | storeImm imm => exact ⟨_, rfl, memWrite_busRun s imm⟩
  | aluReg op r => exact ⟨_, exec_aluRegInstr .., aluFrom_busRun ..⟩
  | aluMem op => exact ⟨_, exec_aluMemInstr .., aluFrom_busRun ..⟩
  | aluImm op imm => exact ⟨_, exec_aluImmInstr .., aluWith_busRun ..⟩
  | inc r h => exact ⟨_, exec_incInstr r h .., replaceReg_busRun ..⟩
  | dec r h => exact ⟨_, exec_decInstr r h .., replaceReg_busRun ..⟩
  | unimplInc => exact ⟨_, rfl, (BusRun.raiseUnimplemented_iff _).2 (.refl s)⟩
  | unimplDec => exact ⟨_, rfl, (BusRun.raiseUnimplemented_iff _).2 (.refl s)⟩
  | rotate op x => exact ⟨_, exec_rotateInstr .., rotate_busRun ..⟩
  | jmp x lo hi => exact ⟨_, rfl, jumpTo_busRun ..⟩
  | jumpIf t cc lo hi => exact ⟨_, exec_jumpIfInstr .., jumpIf_busRun ..⟩
  | cal x lo hi => exact ⟨_, rfl, callTo_busRun ..⟩
  | callIf t cc lo hi => exact ⟨_, exec_callIfInstr .., callIf_busRun ..⟩
  | ret x => exact ⟨_, rfl, returnNow_busRun s⟩
  | returnIf t cc => exact ⟨_, exec_returnIfInstr .., returnIf_busRun ..⟩
  | rst n => exact ⟨_, exec_rstInstr .., restart_busRun ..⟩
  | io p =>
    rcases Nat.lt_or_ge p.toNat 8 with h | h
    · exact ⟨_, exec_ioInstr_input p h s, input_busRun p s⟩
    · exact ⟨_, exec_ioInstr_output p h s, output_busRun p s⟩
  | hlt op => exact ⟨_, rfl, halt_busRun s⟩

theorem coreStep_busRun {s t : State} (h : coreStep s = .next t) : BusRun s t := by
  obtain ⟨-, ⟨-, rfl⟩ | ⟨-, u, hexec, rfl⟩⟩ := coreStep_cases h
  · exact stoppedPoll_busRun s
  · obtain ⟨u', hexec', hrun⟩ := exec_busRun s.sampleInterrupt.fetchInstr.1 s.sampleInterrupt.fetchInstr.2
    cases hexec.symm.trans hexec'
    have hfetch : BusRun s s.sampleInterrupt.fetchInstr.2 := BusRun.sampleInterrupt_left_iff.1 (fetchInstr_busRun _)
    exact BusRun.endCycle_iff.2 (hfetch.trans hrun)

theorem turnTaken_of_cons {s : State} {x : Turn} {rest : List Turn} (h : s.schedule = x :: rest) :
    s.turnTaken = { s with schedule := rest } := by
  rw [State.turnTaken, h, List.tail_cons]

/-- Whoever moves, a step uses up the turn and is a run of transactions. -/
theorem step_busRun {s t : State} (h : step s = .next t) : BusRun s.turnTaken t := by
  obtain ⟨-, hcore⟩ | ⟨rest, hs, rfl⟩ | ⟨rest, hs, rfl⟩ := step_cases h
  · exact coreStep_busRun hcore
  all_goals rw [turnTaken_of_cons hs]
  · exact BusRun.requestInterrupt_iff.2 (.refl _)
  · exact resetCore_busRun _

/-- Settles O17: the transactions of the step are those of its run. -/
theorem everyTransactionIsTracedOnce : Obligations.EveryTransactionIsTracedOnce := by
  intro s t h
  obtain ⟨ts, htrace, hscript, -⟩ := step_busRun h
  exact ⟨ts, htrace, hscript⟩

/-- Settles O58: no write cycle straddles the join of the old trace and the step's run, so replay goes on from the
old memory. -/
theorem memoryIsWhatTheTraceWrote : Obligations.MemoryIsWhatTheTraceWrote := by
  intro m0 s t hs h
  obtain ⟨ts, htrace, -, -, hfresh, hmem⟩ := step_busRun h
  calc t.mem
    _ = s.mem.replay ts := hmem
    _ = (m0.replay s.trace).replay ts := by rw [hs]
    _ = m0.replay (s.trace ++ ts) := (Memory.replay_append ts hfresh s.trace m0).symm
    _ = m0.replay t.trace := by rw [htrace, State.turnTaken_trace]

/-- Settles O11: each turn by the arm of `step` for it, the schedule by the run of any step. -/
theorem scheduledTurnIsTaken : Obligations.ScheduledTurnIsTaken := by
  intro s rest
  refine ⟨rfl, rfl, rfl, rfl, fun t h => ?_⟩
  obtain ⟨-, -, -, hschedule, -⟩ := step_busRun h
  exact hschedule

end Sys2Proof.Laws
end

section
/-! What every step keeps of the core's state: the invariant `State.Inv` (O19, O20) and a pending request (O15, O16). -/

namespace Sys2Proof.Machine

/-! ## The invariant within a step -/

/-- The part of `State.Inv` that holds inside a step too: all but `interrupt_cycle`, which is 1 in the middle of a
forced one (R32). -/
structure State.Lawful (s : State) : Prop where
  mem : s.mem.wf = true
  slots : s.SlotsLegal
  fault : s.FaultLegal

theorem State.inv_iff (s : State) : s.Inv ↔ s.Lawful ∧ s.interruptCycle = false :=
  ⟨fun ⟨hmem, hslots, hcycle, hfault⟩ => ⟨⟨hmem, hslots, hfault⟩, hcycle⟩,
    fun ⟨⟨hmem, hslots, hfault⟩, hcycle⟩ => ⟨hmem, hslots, hcycle, hfault⟩⟩

/-- A 14-bit address put in a container leaves bits 15 and 14 of every container 0 (R24). -/
theorem stack_set_lt {v : Vector Slot 8} (hv : ∀ k : Fin 8, v[k].toNat < 2 ^ 14) (j : BitVec 3) (a : Address) (k : Fin 8) :
    (v.set j.toNat (a.zeroExtend 16) j.isLt)[k].toNat < 2 ^ 14 := by
  rw [Fin.getElem_fin, Vector.getElem_set]
  split
  · rw [BitVec.toNat_setWidth_of_le (by decide)]
    exact a.isLt
  · exact hv k

theorem State.Lawful.sampleInterrupt {s : State} (h : s.Lawful) : s.sampleInterrupt.Lawful := by
  unfold State.sampleInterrupt
  split
  · exact ⟨h.mem, h.slots, h.fault⟩
  · exact h

theorem State.Lawful.fetchInstr {s : State} (h : s.Lawful) : s.fetchInstr.2.Lawful := by
  obtain ⟨ts, stack, hfetch, hstack, -⟩ := Laws.fetchInstr_shape s
  rw [hfetch]
  refine ⟨h.mem, ?_, h.fault⟩
  obtain rfl | ⟨j, a, rfl⟩ := hstack
  · exact h.slots
  · exact stack_set_lt h.slots j a

/-- Every instruction: the limits on what it does to memory, stack and fault latch are those the invariant sets. -/
theorem State.Lawful.exec {s t : State} {i : Instr} (h : s.Lawful) (hexec : exec i s = .next t) : t.Lawful := by
  obtain ⟨ts, regs, flags, stack, sp, mem, run, fault, hshape, limits⟩ := Laws.exec_shape i s
  cases hexec.symm.trans hshape
  refine ⟨?_, ?_, ?_⟩
  · obtain rfl | ⟨v, pre, x, y, z, rfl, -⟩ := limits.mem
    · exact h.mem
    · exact Memory.write_wf _ v h.mem
  · obtain rfl | ⟨j, a, rfl⟩ := limits.stack
    · exact h.slots
    · exact stack_set_lt h.slots j a
  · obtain rfl | hfault := limits.fault
    · exact h.fault
    · exact .inr hfault

theorem State.Inv.stoppedPoll {s : State} (h : s.Inv) : s.stoppedPoll.Inv := by
  rw [State.stoppedPoll_eq]
  exact h

/-- Whatever the core held, the reset leaves legal values (R260); memory is the environment's and stays. -/
theorem State.resetCore_inv {s : State} (h : s.mem.wf = true) : s.resetCore.Inv :=
  State.Inv.stoppedPoll ⟨h, fun k => by simp, rfl, .inl rfl⟩

end Sys2Proof.Machine

namespace Sys2Proof.Laws

open Sys2Proof.Machine

theorem coreStep_keeps_inv {s t : State} (hs : s.Inv) (h : coreStep s = .next t) : t.Inv := by
  obtain ⟨-, ⟨-, rfl⟩ | ⟨-, u, hexec, rfl⟩⟩ := coreStep_cases h
  · exact hs.stoppedPoll
  · obtain ⟨hlawful, -⟩ := s.inv_iff.1 hs
    obtain ⟨hmem, hslots, hfault⟩ := hlawful.sampleInterrupt.fetchInstr.exec hexec
    exact u.endCycle.inv_iff.2 ⟨⟨hmem, hslots, hfault⟩, rfl⟩

/-- Settles O19: each of the moves a step can be keeps the invariant. -/
theorem stepKeepsLegalStates : Obligations.StepKeepsLegalStates := by
  intro s t hs h
  obtain ⟨-, hcore⟩ | ⟨rest, -, rfl⟩ | ⟨rest, -, rfl⟩ := step_cases h
  · exact coreStep_keeps_inv (s := s.turnTaken) hs hcore
  · exact hs
  · exact State.resetCore_inv hs.1

/-- Settles O20: nothing is in memory, every slot is 0 and the fault latch is clear. -/
theorem resetStateIsLegal : Obligations.ResetStateIsLegal :=
  ⟨rfl, fun k => by simp [State.reset], rfl, .inl rfl⟩

/-- Settles O13: each field as `State.reset` gives it. -/
theorem resetStateHoldsResetValues : Obligations.ResetStateHoldsResetValues :=
  ⟨rfl, rfl, fun k => by simp [State.reset], rfl, rfl, rfl, rfl, rfl, rfl⟩

/-! ## The interrupt latch -/

/-- No instruction clears the latch: it only grows by the requests made in the instruction's transactions (R31). -/
theorem exec_keeps_request {i : Instr} {s t : State} (h : exec i s = .next t) (hs : s.interruptRequest = true) :
    t.interruptRequest = true := by
  obtain ⟨ts, regs, flags, stack, sp, mem, run, fault, hshape, -⟩ := exec_shape i s
  cases h.symm.trans hshape
  simp [State.latchAfter, hs]

/-- The STOPPED poll keeps the latch (R223). -/
theorem stoppedPoll_keeps_request {s : State} (hs : s.interruptRequest = true) : s.stoppedPoll.interruptRequest = true := by
  simp [State.stoppedPoll_eq, State.latchAfter, hs]

/-- A poll that wakes the core found the latch 1 after its one transaction (R223). -/
theorem stoppedPoll_wakes {s : State} (hs : s.run = .stopped) (h : s.stoppedPoll.run = .running) :
    s.stoppedPoll.interruptRequest = true ∧ ∃ inp, s.stoppedPoll.trace = s.trace ++ [⟨.stopped, 0x00#8, inp⟩] := by
  rw [State.stoppedPoll_eq] at h ⊢
  refine ⟨?_, _, rfl⟩
  cases hlatch : s.latchAfter 1
  · simp [hlatch, hs] at h
  · exact hlatch

/-- Settles O15: a STOPPED core's step and a reset end in a poll, and a request leaves the core STOPPED. -/
theorem stoppedCoreWakesOnlyByRequest : Obligations.StoppedCoreWakesOnlyByRequest := by
  intro s t h hs ht
  obtain ⟨-, hcore⟩ | ⟨rest, -, rfl⟩ | ⟨rest, -, rfl⟩ := step_cases h
  · obtain ⟨-, ⟨-, rfl⟩ | ⟨hrun, -⟩⟩ := coreStep_cases hcore
    · exact stoppedPoll_wakes (s := s.turnTaken) hs ht
    · cases hs.symm.trans hrun
  · cases hs.symm.trans ht
  · rw [State.resetCore] at ht ⊢
    exact stoppedPoll_wakes rfl ht

/-- Settles O16: of the moves a step can be, a poll and a request keep the latch. -/
theorem instructionsKeepAPendingRequest : Obligations.InstructionsKeepAPendingRequest := by
  refine ⟨fun i s t => exec_keeps_request, fun s t h hs ht => ?_⟩
  obtain ⟨hturn, hcore⟩ | ⟨rest, -, rfl⟩ | ⟨rest, hreset, -⟩ := step_cases h
  · obtain ⟨hfault, ⟨-, rfl⟩ | ⟨hrun, -⟩⟩ := coreStep_cases hcore
    · cases ht.symm.trans (stoppedPoll_keeps_request (s := s.turnTaken) hs)
    · exact .inr ⟨hturn, hfault, hrun⟩
  · cases ht
  · exact .inl ⟨rest, hreset⟩

end Sys2Proof.Laws
end

section
/-! The address stack under pushes and pops (O53, O52, O47), the memory operand's address (O28). -/

namespace Sys2Proof.Machine

/-! ## Push and pop -/

/-- A push writes the slot it advances to (R26). -/
theorem State.slot_push_self (s : State) (a : Address) : (s.push a).slot (s.sp + 1) = a.zeroExtend 16 :=
  State.slot_setSlot_self { s with sp := s.sp + 1 } _ a

/-- A push leaves every other slot alone, the one left behind with the return address among them (R26). -/
theorem State.slot_push_ne (s : State) (a : Address) {k : BitVec 3} (h : k ≠ s.sp + 1) : (s.push a).slot k = s.slot k :=
  State.slot_setSlot_ne { s with sp := s.sp + 1 } a h

/-- A pop after a push: the index is back, and the slot pushed to keeps the address (R26, R204). -/
theorem State.pop_push (s : State) (a : Address) : (s.push a).pop = s.setSlot (s.sp + 1) a := by
  have hsp : s.sp + 1 - 1 = s.sp := by bv_omega
  show ({ s.setSlot (s.sp + 1) a with sp := s.sp + 1 - 1 } : State) = _
  rw [hsp]
  rfl

/-- Writing another slot than the current one leaves `pc` alone. -/
theorem State.pc_setSlot_ne (s : State) {k : BitVec 3} (a : Address) (h : s.sp ≠ k) : (s.setSlot k a).pc = s.pc := by
  rw [State.pc, State.setSlot_sp, State.slot_setSlot_ne s a h, State.pc]

/-! ## Nested pushes -/

theorem State.pushAll_append (s : State) (as bs : List Address) : s.pushAll (as ++ bs) = (s.pushAll as).pushAll bs := by
  induction as generalizing s with
  | nil => rfl
  | cons a as ih => exact ih (s.push a)

theorem State.pushAll_sp (s : State) (as : List Address) : (s.pushAll as).sp = s.sp + BitVec.ofNat 3 as.length := by
  induction as generalizing s with
  | nil => simp [State.pushAll]
  | cons a as ih =>
    rw [State.pushAll, ih, State.push_sp, List.length_cons]
    bv_omega

/-- A slot keeps its value where no more addresses are pushed than the slots from the first one pushed to up to it,
itself not counted. -/
theorem State.slot_pushAll (s : State) (as : List Address) {k : BitVec 3} (h : as.length ≤ (k - (s.sp + 1)).toNat) :
    (s.pushAll as).slot k = s.slot k := by
  induction as generalizing s with
  | nil => rfl
  | cons a as ih =>
    rw [List.length_cons] at h
    have hne : k ≠ s.sp + 1 := by bv_omega
    rw [State.pushAll, ih, State.slot_push_ne s a hne]
    rw [State.push_sp]
    bv_omega

/-! ## Calls and returns -/

/-- A taken return is a pop that two transactions show (R200). -/
theorem returnNow_eq (s : State) :
    returnNow s = (s.perform [s.silent 0 .t4 ((addrHigh s.pop.pc).zeroExtend 8), s.silent 1 .t5 (addrLow s.pop.pc)]).pop := by
  simp [returnNow, State.showTarget_eq]

/-- A taken call is a push that two transactions show (R194). -/
theorem callTo_eq (a : Address) (s : State) :
    callTo a s = (s.perform [s.silent 0 .t4 ((addrHigh a).zeroExtend 8), s.silent 1 .t5 (addrLow a)]).push a := by
  rw [callTo, State.showTarget_eq]

/-- A call and a return come to a run of transactions and the target left in the slot above (R204). -/
theorem returnNow_callTo (a : Address) (s : State) : ∃ ts, returnNow (callTo a s) = (s.perform ts).setSlot (s.sp + 1) a := by
  rw [callTo_eq, returnNow_eq, State.perform_push, State.perform_perform, State.pop_push]
  exact ⟨_, rfl⟩

/-! ## Addresses of two bytes -/

/-- Six bits followed by a byte, as a number (R23, R89). -/
theorem toNat_low_six_append (hi lo : Byte) : (hi.extractLsb' 0 6 ++ lo).toNat = hi.toNat % 64 * 256 + lo.toNat := by
  rw [BitVec.toNat_append, ← Nat.shiftLeft_add_eq_or_of_lt lo.isLt, BitVec.extractLsb'_toNat, Nat.shiftRight_zero,
    Nat.shiftLeft_eq]

theorem target14_toNat (lo hi : Byte) : (target14 lo hi).toNat = targetNat lo hi := toNat_low_six_append hi lo

theorem target14_eq (lo hi : Byte) : target14 lo hi = BitVec.ofNat 14 (targetNat lo hi) := by
  rw [← target14_toNat, BitVec.ofNat_toNat, BitVec.setWidth_eq]

/-- The container that holds a target (R24). -/
theorem zeroExtend_target14 (lo hi : Byte) : (target14 lo hi).zeroExtend 16 = BitVec.ofNat 16 (targetNat lo hi) := by
  rw [← target14_toNat, BitVec.ofNat_toNat]

theorem addrLow_target14 (lo hi : Byte) : addrLow (target14 lo hi) = lo := BitVec.extractLsb'_append_eq_right

/-- The byte that shows the high six bits of a target (R63). -/
theorem zeroExtend_addrHigh_target14 (lo hi : Byte) :
    (addrHigh (target14 lo hi)).zeroExtend 8 = BitVec.ofNat 8 (hi.toNat % 64) := by
  have hhigh : addrHigh (target14 lo hi) = hi.extractLsb' 0 6 := BitVec.extractLsb'_append_eq_left
  rw [hhigh, BitVec.zeroExtend, ← BitVec.ofNat_toNat, BitVec.extractLsb'_toNat, Nat.shiftRight_zero]

end Sys2Proof.Machine

namespace Sys2Proof.Laws

open Sys2Proof.Machine

/-- Settles O53: the slot that was current is the eighth to be pushed to. -/
theorem nestedPushesWrapAtEight : Obligations.NestedPushesWrapAtEight := by
  intro s as
  refine ⟨s.pushAll_sp as, fun h => s.slot_pushAll as ?_, fun a h => ?_⟩
  · have hdist : (s.sp - (s.sp + 1)).toNat = 7 := by bv_omega
    omega
  · have hsp : (s.pushAll as).sp + 1 = s.sp := by
      rw [State.pushAll_sp, h]
      bv_omega
    rw [State.pushAll_append]
    refine ⟨hsp, ?_⟩
    have hslot := (s.pushAll as).slot_push_self a
    rwa [hsp] at hslot

/-- Settles O52: the return undoes the call's push but for the slot it wrote, which is not the current one. -/
theorem callThenReturnComesBack : Obligations.CallThenReturnComesBack := by
  intro x y lo hi s
  obtain ⟨ts, h⟩ := returnNow_callTo (target14 lo hi) s
  have hne : s.sp ≠ s.sp + 1 := by bv_omega
  refine ⟨callTo (target14 lo hi) s, returnNow (callTo (target14 lo hi) s), rfl, rfl, ?_⟩
  rw [h]
  exact ⟨rfl, State.pc_setSlot_ne (s.perform ts) _ hne, rfl, rfl, rfl, fun k hk => State.slot_setSlot_ne (s.perform ts) _ hk⟩

/-- Settles O47: a call is two transactions and a push of the target. -/
theorem callPushesTarget : Obligations.CallPushesTarget := by
  intro x lo hi s
  refine ⟨rfl, callTo (target14 lo hi) s, rfl, ?_⟩
  rw [callTo_eq, zeroExtend_addrHigh_target14, addrLow_target14]
  refine ⟨(State.pc_push ..).trans (target14_eq lo hi), fun k hk => State.slot_push_ne _ _ hk, ?_⟩
  rw [← zeroExtend_target14]
  rfl

/-- Settles O28: bits 7 and 6 of H are not in the address. -/
theorem memoryOperandAddressIsFourteenBits : Obligations.MemoryOperandAddressIsFourteenBits := by
  refine fun s x => ⟨toNat_low_six_append .., ?_⟩
  show (x ++ s.regs.h.extractLsb' 0 6).extractLsb' 0 6 ++ s.regs.l = _
  rw [BitVec.extractLsb'_append_eq_right]
  rfl

end Sys2Proof.Laws
end

section
/-! What an instruction does to the flags and to the stack index, read off its opcode byte (O23, O24). -/

namespace Sys2Proof

/-! ## Fields of the opcode byte (R81) -/

@[simp] theorem fieldClass_append (c : BitVec 2) (d s : BitVec 3) : fieldClass (c ++ d ++ s) = c := by
  rw [fieldClass, BitVec.append_assoc]
  exact BitVec.extractLsb'_append_eq_left

@[simp] theorem fieldD_append (c : BitVec 2) (d s : BitVec 3) : fieldD (c ++ d ++ s) = d := by
  rw [fieldD, BitVec.extractLsb'_append_eq_of_le (by decide)]
  exact BitVec.extractLsb'_append_eq_right

@[simp] theorem fieldS_append (c : BitVec 2) (d s : BitVec 3) : fieldS (c ++ d ++ s) = s :=
  BitVec.extractLsb'_append_eq_right

theorem getElem_five_eq_fieldD (op : Byte) : op[5] = (fieldD op)[2] := by
  simp [fieldD]

theorem low_two_eq_fieldS (op : Byte) : op.extractLsb' 0 2 = (fieldS op).extractLsb' 0 2 := by
  rw [fieldS, BitVec.extractLsb'_extractLsb'_of_le (by decide)]

/-- The ignored bit and the variant of a rotate share the D field (R88). -/
theorem opRotate_eq (k : RotateOp) (x : BitVec 1) : opRotate k x = 0b00#2 ++ (x ++ k.bits) ++ 0b010#3 := by
  rw [opRotate, BitVec.append_assoc (x₁ := 0b00#2)]
  rfl

/-- The sense and the condition of a conditional call share the D field (R84). -/
theorem opCallIf_eq (t : Bool) (cc : Condition) : opCallIf t cc = 0b01#2 ++ (BitVec.ofBool t ++ cc.bits) ++ 0b010#3 := by
  rw [opCallIf, BitVec.append_assoc (x₁ := 0b01#2)]
  rfl

/-- The sense and the condition of a conditional return share the D field (R84). -/
theorem opReturnIf_eq (t : Bool) (cc : Condition) :
    opReturnIf t cc = 0b00#2 ++ (BitVec.ofBool t ++ cc.bits) ++ 0b011#3 := by
  rw [opReturnIf, BitVec.append_assoc (x₁ := 0b00#2)]
  rfl

/-! ## Encodings of the families that write flags or move the index -/

theorem encode_aluRegInstr (p : AluOp) (r : Reg) : encode (aluRegInstr p r) = [opAluReg p r] := by
  cases p <;> cases r <;> rfl

theorem encode_aluMemInstr (p : AluOp) : encode (aluMemInstr p) = [opAluM p] := by
  cases p <;> rfl

theorem encode_aluImmInstr (p : AluOp) (imm : Byte) : encode (aluImmInstr p imm) = [opAluImm p, imm] := by
  cases p <;> rfl

theorem encode_incInstr {r : Reg} (h : r ≠ .a) (op : Byte) : encode (incInstr r op) = [opInc r] := by
  cases r
  case a => exact absurd rfl h
  all_goals rfl

theorem encode_decInstr {r : Reg} (h : r ≠ .a) (op : Byte) : encode (decInstr r op) = [opDec r] := by
  cases r
  case a => exact absurd rfl h
  all_goals rfl

theorem encode_rotateInstr (k : RotateOp) (x : BitVec 1) : encode (rotateInstr k x) = [opRotate k x] := by
  cases k <;> rfl

theorem encode_callIfInstr (t : Bool) (cc : Condition) (lo hi : Byte) :
    encode (callIfInstr t cc lo hi) = [opCallIf t cc, lo, hi] := by
  cases t <;> cases cc <;> rfl

theorem encode_returnIfInstr (t : Bool) (cc : Condition) : encode (returnIfInstr t cc) = [opReturnIf t cc] := by
  cases t <;> cases cc <;> rfl

theorem encode_rstInstr (n : BitVec 3) : encode (rstInstr n) = [opRst n] := by
  obtain ⟨k, hk, rfl⟩ := Laws.exists_ofNat n
  interval_cases k <;> rfl

/-- The register selectors are 0 to 6, and 0 is A (R85). -/
theorem Reg.bits_ne {r : Reg} (h : r ≠ .a) : r.bits ≠ 0#3 ∧ r.bits ≠ 7#3 := by
  cases r
  case a => exact absurd rfl h
  all_goals decide

end Sys2Proof

namespace Sys2Proof.Machine

/-! ## Which operations write carry -/

/-- The logic operations keep carry (R155). -/
theorem Flags.afterAlu_c_of_not_writesCarry (f : Flags) {p : AluOp} (w : BitVec 9) (h : aluWritesCarry p = false) :
    (f.afterAlu p w).c = f.c := by
  rw [Flags.afterAlu, h]
  rfl

/-- Add and subtract forms are operations 0 to 3, compare is 7 (R86). -/
theorem aluBits_of_writesCarry {p : AluOp} (h : aluWritesCarry p = true) : p.bits[2] = false ∨ p.bits = 7#3 := by
  cases p
  case add | addCarry | sub | subBorrow => exact .inl rfl
  case compare => exact .inr rfl
  all_goals cases h

/-! ## Flags and index through the shared operations -/

@[simp] theorem State.visible_flags (s : State) (p : BusState) (o : Byte) : (s.visible p o).flags = s.flags := by
  rw [State.visible_eq, State.perform_flags]

@[simp] theorem State.visible_sp (s : State) (p : BusState) (o : Byte) : (s.visible p o).sp = s.sp := by
  rw [State.visible_eq, State.perform_sp]

@[simp] theorem State.memRead_flags (s : State) : s.memRead.2.flags = s.flags := by
  rw [State.memRead_eq, State.perform_flags]

@[simp] theorem State.memRead_sp (s : State) : s.memRead.2.sp = s.sp := by
  rw [State.memRead_eq, State.perform_sp]

@[simp] theorem State.readSel_flags (s : State) (src : Option Reg) : (s.readSel src).2.flags = s.flags := by
  cases src with
  | some r => rfl
  | none => exact s.memRead_flags

@[simp] theorem State.readSel_sp (s : State) (src : Option Reg) : (s.readSel src).2.sp = s.sp := by
  cases src with
  | some r => rfl
  | none => exact s.memRead_sp

@[simp] theorem State.showTarget_flags (s : State) (a : Address) : (s.showTarget a).flags = s.flags := by
  rw [State.showTarget_eq, State.perform_flags]

@[simp] theorem State.showTarget_sp (s : State) (a : Address) : (s.showTarget a).sp = s.sp := by
  rw [State.showTarget_eq, State.perform_sp]

/-- Flags and index are in the second state as in the first. -/
structure SameFlagsAndIndex (s t : State) : Prop where
  flags : t.flags = s.flags
  sp : t.sp = s.sp

theorem loadReg_same (dst : Reg) (src : Option Reg) (s : State) : SameFlagsAndIndex s (loadReg dst src s) := by
  constructor <;> simp [loadReg, State.writeSel]

theorem memWrite_same (v : Byte) (s : State) : SameFlagsAndIndex s (s.memWrite v) := by
  rw [State.memWrite_eq]
  exact ⟨rfl, rfl⟩

theorem storeReg_same (src : Reg) (s : State) : SameFlagsAndIndex s (storeReg src s) := by
  rw [storeReg_eq]
  obtain ⟨hflags, hsp⟩ := memWrite_same (s.regs.get src) (s.perform [s.silent 0 .t4 (s.regs.get src)])
  exact ⟨hflags, hsp⟩

theorem loadImm_same (dst : Reg) (imm : Byte) (s : State) : SameFlagsAndIndex s (loadImm dst imm s) := by
  rw [loadImm_eq]
  exact ⟨rfl, rfl⟩

theorem jumpTo_same (a : Address) (s : State) : SameFlagsAndIndex s (jumpTo a s) :=
  ⟨s.showTarget_flags a, s.showTarget_sp a⟩

theorem jumpIf_same (t : Bool) (cc : Condition) (a : Address) (s : State) : SameFlagsAndIndex s (jumpIf t cc a s) := by
  rw [jumpIf]
  split
  · exact jumpTo_same a s
  · exact ⟨rfl, rfl⟩

theorem input_same (p : BitVec 5) (s : State) : SameFlagsAndIndex s (input p s) := by
  rw [input_eq]
  exact ⟨rfl, rfl⟩

theorem output_same (p : BitVec 5) (s : State) : SameFlagsAndIndex s (output p s) := by
  rw [output_eq]
  exact ⟨rfl, rfl⟩

theorem halt_same (s : State) : SameFlagsAndIndex s (halt s) := by
  rw [halt_eq]
  exact ⟨rfl, rfl⟩

theorem aluWith_flags (p : AluOp) (b : Byte) (s : State) :
    (aluWith p b s).flags = s.flags.afterAlu p (alu p s.regs.a b s.flags.c) := by
  rw [aluWith_eq]
  cases p <;> rfl

theorem aluWith_sp (p : AluOp) (b : Byte) (s : State) : (aluWith p b s).sp = s.sp := by
  rw [aluWith_eq]
  cases p <;> rfl

theorem replaceReg_flags (dst : Reg) (res : Byte) (s : State) : (replaceReg dst res s).flags = s.flags.zsp res := by
  rw [replaceReg_eq, State.setFlags_flags]

theorem replaceReg_sp (dst : Reg) (res : Byte) (s : State) : (replaceReg dst res s).sp = s.sp := by
  rw [replaceReg_eq]
  rfl

theorem rotate_flags (k : RotateOp) (s : State) : (rotate k s).flags = s.flags.setCarry (rotateCarry k s.regs.a) := by
  rw [rotate_eq]
  rfl

theorem rotate_sp (k : RotateOp) (s : State) : (rotate k s).sp = s.sp := by
  rw [rotate_eq]
  rfl

theorem callTo_flags (a : Address) (s : State) : (callTo a s).flags = s.flags := s.showTarget_flags a

theorem callTo_sp (a : Address) (s : State) : (callTo a s).sp = s.sp + 1 := by
  rw [callTo, State.push_sp, State.showTarget_sp]

theorem returnNow_flags (s : State) : (returnNow s).flags = s.flags := s.pop.showTarget_flags _

theorem returnNow_sp (s : State) : (returnNow s).sp = s.sp - 1 := s.pop.showTarget_sp _

end Sys2Proof.Machine

namespace Sys2Proof.Laws

open Sys2Proof.Machine

/-! ## What the opcode allows -/

/-- The opcode is of the ALU family with operation `p`: `10 PPP sss`, `10 PPP 111` or `00 PPP 100` (R82, R83). -/
def IsAluOpcode (p : AluOp) (op : Byte) : Prop :=
  fieldD op = p.bits ∧ (fieldClass op = 2#2 ∨ (fieldClass op = 0#2 ∧ fieldS op = 4#3))

/-- What an instruction with opcode `op` may make of the flags `f`. -/
inductive FlagEffect (f : Flags) (op : Byte) : Flags → Prop
  | keep : FlagEffect f op f
  | alu (p : AluOp) (w : BitVec 9) (h : IsAluOpcode p op) : FlagEffect f op (f.afterAlu p w)
  | replace (r : Reg) (res : Byte) (h : r ≠ .a) (hclass : fieldClass op = 0#2) (hD : fieldD op = r.bits)
      (hS : fieldS op = 0#3 ∨ fieldS op = 1#3) : FlagEffect f op (f.zsp res)
  | rotate (c : Bool) (hclass : fieldClass op = 0#2) (hS : fieldS op = 2#3) : FlagEffect f op (f.setCarry c)

/-- What an instruction with opcode `op` may make of the stack index `sp`. -/
inductive IndexEffect (sp : BitVec 3) (op : Byte) : BitVec 3 → Prop
  | keep : IndexEffect sp op sp
  | call (hclass : fieldClass op = 1#2) (hlow : op.extractLsb' 0 2 = 2#2) : IndexEffect sp op (sp + 1)
  | restart (hclass : fieldClass op = 0#2) (hS : fieldS op = 5#3) : IndexEffect sp op (sp + 1)
  | ret (hclass : fieldClass op = 0#2) (hS : fieldS op = 3#3 ∨ fieldS op = 7#3) : IndexEffect sp op (sp - 1)

/-- From `s` to `t` flags and index change as the opcode of `i` allows. -/
def OpcodeEffects (i : Instr) (s t : State) : Prop :=
  ∀ op rest, encode i = op :: rest → FlagEffect s.flags op t.flags ∧ IndexEffect s.sp op t.sp

theorem OpcodeEffects.of_same {i : Instr} {s t : State} (h : SameFlagsAndIndex s t) : OpcodeEffects i s t := by
  obtain ⟨hflags, hsp⟩ := h
  intro op rest _
  rw [hflags, hsp]
  exact ⟨.keep, .keep⟩

/-- The effects need only be known at the instruction's own opcode. -/
theorem OpcodeEffects.of_encode {i : Instr} {s t : State} {op : Byte} {rest : List Byte} (hi : encode i = op :: rest)
    (hflags : FlagEffect s.flags op t.flags) (hsp : IndexEffect s.sp op t.sp) : OpcodeEffects i s t := by
  intro op' rest' hi'
  cases hi.symm.trans hi'
  exact ⟨hflags, hsp⟩

theorem aluWith_effects {i : Instr} {s u : State} {p : AluOp} {op b : Byte} {rest : List Byte} (hi : encode i = op :: rest)
    (hop : IsAluOpcode p op) (hflags : u.flags = s.flags) (hsp : u.sp = s.sp) : OpcodeEffects i s (aluWith p b u) := by
  refine .of_encode hi ?_ ?_
  · rw [aluWith_flags, hflags]
    exact .alu p _ hop
  · rw [aluWith_sp, hsp]
    exact .keep

theorem replaceReg_effects {i : Instr} {s : State} {r : Reg} {op res : Byte} {rest : List Byte} (hi : encode i = op :: rest)
    (h : r ≠ .a) (hclass : fieldClass op = 0#2) (hD : fieldD op = r.bits) (hS : fieldS op = 0#3 ∨ fieldS op = 1#3) :
    OpcodeEffects i s (replaceReg r res s) := by
  refine .of_encode hi ?_ ?_
  · rw [replaceReg_flags]
    exact .replace r res h hclass hD hS
  · rw [replaceReg_sp]
    exact .keep

theorem callTo_effects {i : Instr} {s : State} {a : Address} {op : Byte} {rest : List Byte} (hi : encode i = op :: rest)
    (hclass : fieldClass op = 1#2) (hlow : op.extractLsb' 0 2 = 2#2) : OpcodeEffects i s (callTo a s) := by
  refine .of_encode hi ?_ ?_
  · rw [callTo_flags]
    exact .keep
  · rw [callTo_sp]
    exact .call hclass hlow

theorem returnNow_effects {i : Instr} {s : State} {op : Byte} {rest : List Byte} (hi : encode i = op :: rest)
    (hclass : fieldClass op = 0#2) (hS : fieldS op = 3#3 ∨ fieldS op = 7#3) : OpcodeEffects i s (returnNow s) := by
  refine .of_encode hi ?_ ?_
  · rw [returnNow_flags]
    exact .keep
  · rw [returnNow_sp]
    exact .ret hclass hS

/-- Every instruction changes flags and index as its opcode allows. -/
theorem exec_effects (i : Instr) (s : State) : ∃ t, exec i s = .next t ∧ OpcodeEffects i s t := by
  cases family i with
  | load dst src => exact ⟨_, exec_loadInstr .., .of_same (loadReg_same ..)⟩
  | loadMem dst => exact ⟨_, exec_loadMemInstr .., .of_same (loadReg_same ..)⟩
  | store src => exact ⟨_, exec_storeInstr .., .of_same (storeReg_same ..)⟩
  | loadImm dst imm => exact ⟨_, exec_loadImmInstr .., .of_same (loadImm_same ..)⟩
  | storeImm imm => exact ⟨_, rfl, .of_same (memWrite_same imm s)⟩
  | aluReg p r =>
    exact ⟨_, exec_aluRegInstr .., aluWith_effects (encode_aluRegInstr ..) (by simp [IsAluOpcode, opAluReg]) rfl rfl⟩
  | aluMem p =>
    exact ⟨_, exec_aluMemInstr .., aluWith_effects (encode_aluMemInstr p) (by simp [IsAluOpcode, opAluM])
      (s.readSel_flags none) (s.readSel_sp none)⟩
  | aluImm p imm =>
    exact ⟨_, exec_aluImmInstr .., aluWith_effects (encode_aluImmInstr ..) (by simp [IsAluOpcode, opAluImm]) rfl rfl⟩
  | inc r h =>
    exact ⟨_, exec_incInstr r h .., replaceReg_effects (encode_incInstr h 0) h (by simp [opInc]) (by simp [opInc])
      (by simp [opInc])⟩
  | dec r h =>
    exact ⟨_, exec_decInstr r h .., replaceReg_effects (encode_decInstr h 0) h (by simp [opDec]) (by simp [opDec])
      (by simp [opDec])⟩
  | unimplInc => exact ⟨_, rfl, .of_same ⟨rfl, rfl⟩⟩
  | unimplDec => exact ⟨_, rfl, .of_same ⟨rfl, rfl⟩⟩
  | rotate k x =>
    refine ⟨_, exec_rotateInstr .., .of_encode (encode_rotateInstr k x) ?_ ?_⟩
    · rw [rotate_flags]
      exact .rotate _ (by simp [opRotate_eq]) (by simp [opRotate_eq])
    · rw [rotate_sp]
      exact .keep
  | jmp x lo hi => exact ⟨_, rfl, .of_same (jumpTo_same ..)⟩
  | jumpIf t cc lo hi => exact ⟨_, exec_jumpIfInstr .., .of_same (jumpIf_same ..)⟩
  | cal x lo hi =>
    exact ⟨_, rfl, callTo_effects rfl (by simp [opCal]) (by simp [low_two_eq_fieldS, opCal])⟩
  | callIf t cc lo hi =>
    refine ⟨_, exec_callIfInstr .., ?_⟩
    rw [callIf]
    split
    · exact callTo_effects (encode_callIfInstr ..) (by simp [opCallIf_eq]) (by simp [low_two_eq_fieldS, opCallIf_eq])
    · exact .of_same ⟨rfl, rfl⟩
  | ret x => exact ⟨_, rfl, returnNow_effects rfl (by simp [opRet]) (by simp [opRet])⟩
  | returnIf t cc =>
    refine ⟨_, exec_returnIfInstr .., ?_⟩
    rw [returnIf]
    split
    · exact returnNow_effects (encode_returnIfInstr ..) (by simp [opReturnIf_eq]) (by simp [opReturnIf_eq])
    · exact .of_same ⟨rfl, rfl⟩
  | rst n =>
    refine ⟨_, exec_rstInstr .., .of_encode (encode_rstInstr n) ?_ ?_⟩ <;> rw [restart_eq]
    · exact .keep
    · exact .restart (by simp [opRst]) (by simp [opRst])
  | io p =>
    rcases Nat.lt_or_ge p.toNat 8 with h | h
    · exact ⟨_, exec_ioInstr_input p h s, .of_same (input_same p s)⟩
    · exact ⟨_, exec_ioInstr_output p h s, .of_same (output_same p s)⟩
  | hlt op => exact ⟨_, rfl, .of_same (halt_same s)⟩

theorem exec_opcodeEffects {i : Instr} {s t : State} (h : exec i s = .next t) : OpcodeEffects i s t := by
  obtain ⟨t', h', heffects⟩ := exec_effects i s
  cases h.symm.trans h'
  exact heffects

/-! ## The flags -/

theorem IsAluOpcode.of_writesCarry {p : AluOp} {op : Byte} (h : IsAluOpcode p op) (hp : aluWritesCarry p = true) :
    op[5] = false ∨ fieldD op = 7#3 := by
  rw [getElem_five_eq_fieldD, h.1]
  exact aluBits_of_writesCarry hp

/-- The opcodes that may change carry (R155, R184). -/
theorem FlagEffect.carry {f g : Flags} {op : Byte} (h : FlagEffect f op g) (hc : g.c ≠ f.c) :
    ((fieldClass op = 2#2 ∨ (fieldClass op = 0#2 ∧ fieldS op = 4#3)) ∧ (op[5] = false ∨ fieldD op = 7#3)) ∨
      (fieldClass op = 0#2 ∧ fieldS op = 2#3) := by
  cases h with
  | keep => exact absurd rfl hc
  | alu p w hop =>
    cases hp : aluWritesCarry p
    · exact absurd (f.afterAlu_c_of_not_writesCarry w hp) hc
    · exact .inl ⟨hop.2, hop.of_writesCarry hp⟩
  | replace => exact absurd rfl hc
  | rotate c hclass hS => exact .inr ⟨hclass, hS⟩

/-- The opcodes that may change zero, sign and parity (R155, R170, R171). -/
theorem FlagEffect.zeroSignParity {f g : Flags} {op : Byte} (h : FlagEffect f op g)
    (hzsp : (g.z, g.s, g.p) ≠ (f.z, f.s, f.p)) :
    fieldClass op = 2#2 ∨
      (fieldClass op = 0#2 ∧
        (fieldS op = 4#3 ∨ ((fieldS op = 0#3 ∨ fieldS op = 1#3) ∧ fieldD op ≠ 0#3 ∧ fieldD op ≠ 7#3))) := by
  cases h with
  | keep => exact absurd rfl hzsp
  | alu p w hop => exact hop.2.imp_right (And.imp_right .inl)
  | replace r res hr hclass hD hS => exact .inr ⟨hclass, .inr ⟨hS, hD ▸ r.bits_ne hr⟩⟩
  | rotate => exact absurd rfl hzsp

/-- Settles O23: by what the opcode allows. -/
theorem onlyFlagWritersChangeFlags : Obligations.OnlyFlagWritersChangeFlags := by
  intro i s t op rest h hop
  obtain ⟨hflags, -⟩ := exec_opcodeEffects h op rest hop
  exact ⟨hflags.carry, hflags.zeroSignParity⟩

/-! ## The stack index -/

theorem IndexEffect.moved {sp sp' : BitVec 3} {op : Byte} (h : IndexEffect sp op sp') (hsp : sp' ≠ sp) :
    (sp' = sp + 1 ∧ ((fieldClass op = 1#2 ∧ op.extractLsb' 0 2 = 2#2) ∨ (fieldClass op = 0#2 ∧ fieldS op = 5#3))) ∨
      (sp' = sp - 1 ∧ fieldClass op = 0#2 ∧ (fieldS op = 3#3 ∨ fieldS op = 7#3)) := by
  cases h with
  | keep => exact absurd rfl hsp
  | call hclass hlow => exact .inl ⟨rfl, .inl ⟨hclass, hlow⟩⟩
  | restart hclass hS => exact .inl ⟨rfl, .inr ⟨hclass, hS⟩⟩
  | ret hclass hS => exact .inr ⟨rfl, hclass, hS⟩

/-- Settles O24: by what the opcode allows. -/
theorem onlyCallsReturnsRestartsMoveTheIndex : Obligations.OnlyCallsReturnsRestartsMoveTheIndex := by
  intro i s t op rest h hop hsp
  obtain ⟨-, hindex⟩ := exec_opcodeEffects h op rest hop
  exact hindex.moved hsp

end Sys2Proof.Laws
end

section
/-! The model's memory as an array: what a write makes every address read (O25, O26), and canonical lists as the bytes
they list (O27). -/

namespace Sys2Proof.Machine

/-! ## Reading after a write -/

theorem Memory.readAt_cons_self (x : Nat) (v : Byte) (m : Memory) : Memory.readAt ((x, v) :: m) x = v := if_pos rfl

theorem Memory.readAt_cons_ne {x c : Nat} (v : Byte) (m : Memory) (h : c ≠ x) :
    Memory.readAt ((x, v) :: m) c = m.readAt c := if_neg h.symm

/-- The cell put in front is read, also where it is left out: what follows lists only addresses above it. -/
theorem Memory.readAt_consCell_self {a : Nat} (b : Byte) {m : Memory} (hm : Memory.wfFrom (a + 1) m = true) :
    (Memory.consCell a b m).readAt a = b := by
  unfold Memory.consCell
  split
  case isTrue hb => rw [Memory.readAt_below hm (Nat.lt_succ_self a), hb]
  case isFalse => exact Memory.readAt_cons_self a b m

theorem Memory.readAt_consCell_ne {a c : Nat} (b : Byte) (m : Memory) (h : c ≠ a) :
    (Memory.consCell a b m).readAt c = m.readAt c := by
  unfold Memory.consCell
  split
  case isTrue => rfl
  case isFalse => exact Memory.readAt_cons_ne b m h

theorem Memory.readAt_writeAt_self (a : Nat) (b : Byte) {lo : Nat} {m : Memory} (hm : Memory.wfFrom lo m = true) :
    (m.writeAt a b).readAt a = b := by
  induction m generalizing lo with
  | nil => exact Memory.readAt_consCell_self b rfl
  | cons cell m ih =>
    obtain ⟨x, v⟩ := cell
    obtain ⟨-, hx, hv, htail⟩ := (Memory.wfFrom_cons ..).1 hm
    rw [Memory.writeAt_cons]
    split_ifs with hlt heq
    · exact Memory.readAt_consCell_self b ((Memory.wfFrom_cons ..).2 ⟨hlt, hx, hv, htail⟩)
    · exact Memory.readAt_consCell_self b (heq ▸ htail)
    · rw [Memory.readAt_cons_ne v _ heq, ih htail]

/-- In any list, canonical or not: a write drops at most the cell of its own address. -/
theorem Memory.readAt_writeAt_ne {a c : Nat} (h : c ≠ a) (b : Byte) (m : Memory) :
    (m.writeAt a b).readAt c = m.readAt c := by
  induction m with
  | nil => exact Memory.readAt_consCell_ne b [] h
  | cons cell m ih =>
    obtain ⟨x, v⟩ := cell
    rw [Memory.writeAt_cons]
    split_ifs with hlt heq
    · exact Memory.readAt_consCell_ne b _ h
    · rw [Memory.readAt_consCell_ne b m h, Memory.readAt_cons_ne v m (heq ▸ h)]
    · rw [Memory.readAt_cons, Memory.readAt_cons, ih]

theorem Memory.read_write_self {m : Memory} (a : Address) (b : Byte) (h : m.wf = true) : (m.write a b).read a = b :=
  Memory.readAt_writeAt_self a.toNat b h

theorem Memory.read_write_ne (m : Memory) {a c : Address} (b : Byte) (h : c ≠ a) : (m.write a b).read c = m.read c :=
  Memory.readAt_writeAt_ne (BitVec.toNat_ne.1 h) b m

/-! ## Canonical lists are the bytes they list -/

/-- A listed byte is not what an unlisted address reads as, so a list that lists only higher addresses reads otherwise. -/
theorem Memory.readAt_cons_ne_readAt_above {x : Nat} {v : Byte} (hv : v ≠ unlistedByte) (m : Memory) {m' : Memory}
    (hm' : Memory.wfFrom (x + 1) m' = true) : Memory.readAt ((x, v) :: m) x ≠ m'.readAt x := by
  rwa [Memory.readAt_cons_self, Memory.readAt_below hm' (Nat.lt_succ_self x)]

/-- A canonical list that reads like another one at that one's first address begins no later. -/
theorem Memory.head_le_of_readAt_eq {lo lo' x y : Nat} {v w : Byte} {m m' : Memory}
    (hm : Memory.wfFrom lo ((x, v) :: m) = true) (hm' : Memory.wfFrom lo' ((y, w) :: m') = true)
    (h : Memory.readAt ((x, v) :: m) x = Memory.readAt ((y, w) :: m') x) : y ≤ x := by
  obtain ⟨-, -, hv, -⟩ := (Memory.wfFrom_cons ..).1 hm
  obtain ⟨-, hy⟩ := (Memory.wfFrom_cons ..).1 hm'
  by_contra hlt
  exact Memory.readAt_cons_ne_readAt_above hv m ((Memory.wfFrom_cons ..).2 ⟨not_le.1 hlt, hy⟩) h

theorem Memory.eq_of_readAt_eq {lo lo' : Nat} {m m' : Memory} (hm : Memory.wfFrom lo m = true)
    (hm' : Memory.wfFrom lo' m' = true) (h : ∀ a < 2 ^ 14, m.readAt a = m'.readAt a) : m = m' := by
  induction m generalizing lo lo' m' with
  | nil =>
    rcases m' with _ | ⟨⟨y, w⟩, m'⟩
    · rfl
    · obtain ⟨-, hy, hw, -⟩ := (Memory.wfFrom_cons ..).1 hm'
      exact absurd (h y hy).symm (Memory.readAt_cons_ne_readAt_above hw m' rfl)
  | cons cell m ih =>
    obtain ⟨x, v⟩ := cell
    obtain ⟨-, hx, hv, htail⟩ := (Memory.wfFrom_cons ..).1 hm
    rcases m' with _ | ⟨⟨y, w⟩, m'⟩
    · exact absurd (h x hx) (Memory.readAt_cons_ne_readAt_above hv m rfl)
    · obtain ⟨-, hy, -, htail'⟩ := (Memory.wfFrom_cons ..).1 hm'
      obtain rfl : x = y :=
        le_antisymm (Memory.head_le_of_readAt_eq hm' hm (h y hy).symm) (Memory.head_le_of_readAt_eq hm hm' (h x hx))
      obtain rfl : v = w := by simpa only [Memory.readAt_cons_self] using h x hx
      have htails : m = m' := ih htail htail' fun a ha => by
        by_cases hax : a = x
        · rw [hax, Memory.readAt_below htail (Nat.lt_succ_self x), Memory.readAt_below htail' (Nat.lt_succ_self x)]
        · simpa only [Memory.readAt_cons_ne v _ hax] using h a ha
      rw [htails]

/-- Two canonical memories that read alike at every 14-bit address are one list. -/
theorem Memory.eq_of_read_eq {m m' : Memory} (hm : m.wf = true) (hm' : m'.wf = true)
    (h : ∀ a : Address, m.read a = m'.read a) : m = m' := by
  refine Memory.eq_of_readAt_eq hm hm' fun a ha => ?_
  have hread := h (BitVec.ofNat 14 a)
  rwa [Memory.read, Memory.read, BitVec.toNat_ofNat, Nat.mod_eq_of_lt ha] at hread

end Sys2Proof.Machine

namespace Sys2Proof.Laws

open Sys2Proof.Machine

/-- Settles O25: in a canonical list nothing but the new cell is at the address written. -/
theorem readAfterWriteGivesTheByte : Obligations.ReadAfterWriteGivesTheByte :=
  fun _ a b h => Memory.read_write_self a b h

/-- Settles O26: the new cell is at another address. -/
theorem writeLeavesOtherBytes : Obligations.WriteLeavesOtherBytes :=
  fun m _ _ b h => m.read_write_ne b h

/-- Settles O27: the first cells are at the same address and hold the same byte, and so on down the lists. -/
theorem canonicalMemoriesAreEqualData : Obligations.CanonicalMemoriesAreEqualData :=
  fun _ _ hm hm' h => Memory.eq_of_read_eq hm hm' h

end Sys2Proof.Laws
end

section
/-! An instruction, and a step, writes memory only by the write cycle it ends with (O22). -/

namespace Sys2Proof.Machine

/-! ## The address a memory cycle drives (R56) -/

theorem State.addrLow_memAddr (s : State) : addrLow s.memAddr = s.regs.l := BitVec.extractLsb'_append_eq_right

theorem State.addrHigh_memAddr (s : State) : addrHigh s.memAddr = s.regs.h.extractLsb' 0 6 :=
  BitVec.extractLsb'_append_eq_left

/-! ## Ending with a write cycle -/

/-- From `s` to `t` the last three transactions are a write cycle at `a`, and memory has taken its byte and nothing
else (R61). -/
def WritesLast (a : Address) (s t : State) : Prop :=
  ∃ (v : Byte) (pre : List Transaction) (x y z : Byte),
    t.mem = s.mem.write a v ∧
      t.trace = s.trace ++ pre ++ [⟨.t1, addrLow a, x⟩, ⟨.t2, 0b11#2 ++ addrHigh a, y⟩, ⟨.t3, v, z⟩]

/-- What comes before the write cycle may begin earlier, with transactions that leave memory alone. -/
theorem WritesLast.of_earlier {a : Address} {s u t : State} {ts : List Transaction} (htrace : u.trace = s.trace ++ ts)
    (hmem : u.mem = s.mem) (h : WritesLast a u t) : WritesLast a s t := by
  obtain ⟨v, pre, x, y, z, tmem, ttrace⟩ := h
  refine ⟨v, ts ++ pre, x, y, z, hmem ▸ tmem, ?_⟩
  rw [ttrace, htrace, List.append_assoc s.trace]

theorem WritesLast.read_ne {a c : Address} {s t : State} (h : WritesLast a s t) (hc : c ≠ a) :
    t.mem.read c = s.mem.read c := by
  obtain ⟨v, -, -, -, -, hmem, -⟩ := h
  rw [hmem, Memory.read_write_ne _ v hc]

/-- The interrupt sample is no transaction (R101). -/
theorem State.sampleInterrupt_mem_trace (s : State) :
    s.sampleInterrupt.mem = s.mem ∧ s.sampleInterrupt.trace = s.trace := by
  unfold State.sampleInterrupt
  split <;> exact ⟨rfl, rfl⟩

theorem State.stoppedPoll_mem (s : State) : s.stoppedPoll.mem = s.mem := by
  rw [State.stoppedPoll_eq, State.perform_mem]

theorem State.resetCore_mem (s : State) : s.resetCore.mem = s.mem := by
  rw [State.resetCore, State.stoppedPoll_mem]

end Sys2Proof.Machine

namespace Sys2Proof.Laws

open Sys2Proof.Machine

theorem exec_mem {i : Instr} {s t : State} (h : exec i s = .next t) : t.mem = s.mem ∨ WritesLast s.memAddr s t := by
  obtain ⟨ts, regs, flags, stack, sp, mem, run, fault, hshape, limits⟩ := exec_shape i s
  cases h.symm.trans hshape
  obtain hmem | ⟨v, pre, x, y, z, hmem, rfl⟩ := limits.mem
  · exact .inl hmem
  · refine .inr ⟨v, pre, x, y, z, hmem, ?_⟩
    rw [State.addrLow_memAddr, State.addrHigh_memAddr]
    exact (List.append_assoc ..).symm

/-- A fetch reads, and leaves memory alone (R66). -/
theorem fetchInstr_mem_trace (s : State) : s.fetchInstr.2.mem = s.mem ∧ ∃ ts, s.fetchInstr.2.trace = s.trace ++ ts := by
  obtain ⟨ts, stack, hfetch, -⟩ := fetchInstr_shape s
  rw [hfetch]
  exact ⟨rfl, ts, rfl⟩

theorem coreStep_mem {s t : State} (h : coreStep s = .next t) :
    t.mem = s.mem ∨ (s.fault = .none ∧ s.run = .running ∧ ∃ a, WritesLast a s t) := by
  obtain ⟨hfault, ⟨-, rfl⟩ | ⟨hrun, u, hexec, rfl⟩⟩ := coreStep_cases h
  · exact .inl s.stoppedPoll_mem
  · obtain ⟨hmem, ts, htrace⟩ := fetchInstr_mem_trace s.sampleInterrupt
    obtain ⟨smem, strace⟩ := s.sampleInterrupt_mem_trace
    rw [smem] at hmem
    rw [strace] at htrace
    obtain hsame | hwrite := exec_mem hexec
    · exact .inl (hsame.trans hmem)
    · exact .inr ⟨hfault, hrun, _, hwrite.of_earlier htrace hmem⟩

theorem step_mem {s t : State} (h : step s = .next t) :
    t.mem = s.mem ∨ (s.coresTurn = true ∧ s.fault = .none ∧ s.run = .running ∧ ∃ a, WritesLast a s t) := by
  obtain ⟨hturn, hcore⟩ | ⟨rest, -, rfl⟩ | ⟨rest, -, rfl⟩ := step_cases h
  · exact (coreStep_mem hcore).imp_right fun hwrite => ⟨hturn, hwrite⟩
  · exact .inl rfl
  · exact .inl (State.resetCore_mem _)

/-- Settles O22: the shape of any instruction, and the moves a step can be. -/
theorem memoryChangesOnlyByWriteCycle : Obligations.MemoryChangesOnlyByWriteCycle := by
  refine ⟨fun i s t h => ?_, fun s t h => ?_⟩
  · obtain hsame | hwrite := exec_mem h
    · exact ⟨.inl hsame, fun a _ => by rw [hsame]⟩
    · refine ⟨.inr ?_, fun a ha => hwrite.read_ne ha⟩
      obtain ⟨v, pre, x, y, z, hmem, htrace⟩ := hwrite
      rw [State.addrLow_memAddr, State.addrHigh_memAddr] at htrace
      exact ⟨v, s.trace ++ pre, x, y, z, hmem, htrace⟩
  · exact (step_mem h).imp_right fun ⟨hturn, hfault, hrun, a, hwrite⟩ => ⟨hturn, hfault, hrun, a, hwrite⟩

end Sys2Proof.Laws
end

section
/-! The step of a RUNNING core, by the instruction that the bytes of its fetch spell: normal (O7) and forced (O8). -/

namespace Sys2Proof.Machine

/-! ## The instruction three bytes spell -/

/-- What the decoder reads from three bytes, and how long that instruction is (R96). -/
theorem decode_three_bytes {op b1 b2 : Byte} {i : Instr} {rest : List Byte} (h : decode [op, b1, b2] = .ok (i, rest)) :
    instrOf op (if instrLength op = 1 then 0 else b1) (if instrLength op = 1 ∨ instrLength op = 2 then 0 else b2) = i ∧
      (encode i).length = instrLength op ∧ (instrLength op = 1 ∨ instrLength op = 2 ∨ instrLength op = 3) := by
  obtain ⟨hop, hlen⟩ | ⟨hop, hlen⟩ | ⟨hop, hlen⟩ := Laws.encode_instrOf_length op b1 b2 <;>
  · simp only [decode, hop, Except.ok.injEq, Prod.mk.injEq] at h
    obtain ⟨rfl, -⟩ := h
    exact ⟨by simp [hop], hlen.trans hop.symm, by simp [hop]⟩

/-- A normal fetch yields what the bytes at `pc` spell and moves `pc` past them (R58, R59). -/
theorem State.fetchInstr_normal_of_decode {s : State} (hs : s.interruptCycle = false) {i : Instr} {rest : List Byte}
    (h : decode [s.fetchedByte 0, s.fetchedByte 1, s.fetchedByte 2] = .ok (i, rest)) :
    s.fetchInstr =
      (i, (s.perform (s.fetchTransactions (encode i).length)).setPc (s.pc + BitVec.ofNat 14 (encode i).length)) := by
  obtain ⟨hi, hlen, hop⟩ := decode_three_bytes h
  rw [State.fetchInstr_normal s hs, hi, hlen]
  obtain hop | hop | hop := hop <;> simp [hop]

/-- A forced fetch yields what the forced opcode and the bytes at `pc` spell; `pc` moves past the latter only (R108). -/
theorem State.fetchInstr_forced_of_decode {s : State} (hs : s.interruptCycle = true) {i : Instr} {rest : List Byte}
    (h : decode [s.forcedOpcode, s.forcedOperand 0, s.forcedOperand 1] = .ok (i, rest)) :
    s.fetchInstr =
      (i,
        if (encode i).length = 1 then s.perform (s.forcedTransactions (encode i).length)
        else (s.perform (s.forcedTransactions (encode i).length)).setPc
          (s.pc + BitVec.ofNat 14 ((encode i).length - 1))) := by
  obtain ⟨hi, hlen, hop⟩ := decode_three_bytes h
  rw [State.fetchInstr_forced s hs, hi, hlen]
  obtain hop | hop | hop := hop <;> simp [hop]

/-! ## The interrupt sample (R101) -/

theorem State.sampleInterrupt_of_quiet {s : State} (h : s.interruptRequest = false) : s.sampleInterrupt = s := by
  simp [State.sampleInterrupt, h]

theorem State.sampleInterrupt_of_request {s : State} (h : s.interruptRequest = true) :
    s.sampleInterrupt = { s with interruptCycle := true, interruptRequest := false } := by
  simp [State.sampleInterrupt, h]

/-- On its turn a RUNNING, unfaulted core samples the latch, fetches and executes (R100). -/
theorem step_running {s : State} (hturn : s.coresTurn = true) (hfault : s.fault = .none) (hrun : s.run = .running) :
    step s =
      endStep (exec s.turnTaken.sampleInterrupt.fetchInstr.1 s.turnTaken.sampleInterrupt.fetchInstr.2) := by
  rw [step_coresTurn s hturn, coreStep_running s.turnTaken hfault hrun]

end Sys2Proof.Machine

namespace Sys2Proof.Laws

open Sys2Proof.Machine

/-- Settles O7: a core that finds the latch 0 makes a normal fetch. -/
theorem stepRunsDecodedInstruction : Obligations.StepRunsDecodedInstruction := by
  intro s i rest hturn hfault hrun hrequest hcycle hdecode _
  have hfetch := State.fetchInstr_normal_of_decode (s := s.turnTaken) hcycle hdecode
  rw [step_running hturn hfault hrun, State.sampleInterrupt_of_quiet (s := s.turnTaken) hrequest, hfetch]
  rfl

/-- Settles O8: a core that finds the latch 1 clears it and makes a forced fetch. -/
theorem forcedStepRunsSuppliedInstruction : Obligations.ForcedStepRunsSuppliedInstruction := by
  intro s i rest hturn hfault hrun hrequest hdecode
  have hfetch := State.fetchInstr_forced_of_decode
    (s := { s.turnTaken with interruptRequest := false, interruptCycle := true }) rfl hdecode
  rw [step_running hturn hfault hrun, State.sampleInterrupt_of_request (s := s.turnTaken) hrequest, hfetch]
  rfl

end Sys2Proof.Laws
end

section
/-! The start of a program: a STOPPED poll that wakes the core and a forced RST n, from the reset state (O14) and from
any state by a reset (O60); memory and trace of the reset state (O59). -/

namespace Sys2Proof.Machine

/-! ## RST n (R203) -/

theorem restartVector_eq (n : BitVec 3) : restartVector n = BitVec.ofNat 14 (8 * n.toNat) := by
  apply BitVec.eq_of_toNat_eq
  simp [restartVector, Config.rstShift, Nat.shiftLeft_eq, Nat.mul_comm]

theorem addrLow_restartVector (n : BitVec 3) : addrLow (restartVector n) = BitVec.ofNat 8 (8 * n.toNat) := by
  rw [restartVector_eq]
  apply BitVec.eq_of_toNat_eq
  simp [addrLow]

/-- The byte `00 nnn 101` spells RST n, whatever follows it. -/
theorem decode_opRst (n : BitVec 3) (rest : List Byte) : decode (opRst n :: rest) = .ok (rstInstr n, rest) := by
  simp [decode, instrLength, instrOf, classZero, opRst]

/-- The five transactions of a forced RST n: the opcode fetch begun with T1I, then the vector shown (R58, R203). -/
def State.restartTransactions (s : State) (n : BitVec 3) : List Transaction :=
  [s.silent 0 .t1I (addrLow s.pc), s.silent 1 .t2 (0b00#2 ++ addrHigh s.pc), ⟨.t3, 0x00#8, opRst n⟩,
    s.silent 3 .t4 0x00#8, s.silent 4 .t5 (BitVec.ofNat 8 (8 * n.toNat))]

/-- The step in which a RUNNING core takes an interrupt and the environment forces RST n: whole next state. -/
theorem step_forcedRestart {s : State} {n : BitVec 3} (hturn : s.coresTurn = true) (hfault : s.fault = .none)
    (hrun : s.run = .running) (hrequest : s.interruptRequest = true) (hop : s.forcedOpcode = opRst n) :
    step s =
      .next ((State.perform { s.turnTaken with interruptRequest := false, interruptCycle := false }
        (s.restartTransactions n)).push (restartVector n)) := by
  have hlen : (encode (rstInstr n)).length = 1 := by rw [encode_rstInstr, List.length_singleton]
  have hdecode : decode [s.forcedOpcode, s.forcedOperand 0, s.forcedOperand 1] =
      .ok (rstInstr n, [s.forcedOperand 0, s.forcedOperand 1]) := by rw [hop, decode_opRst]
  rw [Laws.forcedStepRunsSuppliedInstruction s (rstInstr n) _ hturn hfault hrun hrequest hdecode, if_pos hlen, hlen,
    exec_rstInstr, restart_eq, addrLow_restartVector, State.perform_perform, State.silent_perform, State.silent_perform,
    State.restartTransactions, ← hop]
  rfl

/-! ## The STOPPED poll that wakes the core (R223) -/

theorem State.stoppedPoll_of_latch {s : State} (h : s.latchAfter 1 = true) :
    s.stoppedPoll = { s.perform [s.silent 0 .stopped 0x00#8] with run := .running } := by
  rw [State.stoppedPoll_eq, if_pos h]
  rfl

theorem State.silent_stoppedPoll (s : State) (k : Nat) (p : BusState) (o : Byte) :
    s.stoppedPoll.silent k p o = s.silent (1 + k) p o := by
  rw [State.stoppedPoll_eq]
  exact s.silent_perform [_] k p o

theorem State.pc_stoppedPoll (s : State) : s.stoppedPoll.pc = s.pc := by
  rw [State.stoppedPoll_eq]
  rfl

theorem State.coresTurn_stoppedPoll (s : State) : s.stoppedPoll.coresTurn = s.coresTurn := by
  rw [State.stoppedPoll_eq]
  rfl

/-- The opcode forced in the step after the poll. -/
theorem State.forcedOpcode_stoppedPoll (s : State) :
    s.stoppedPoll.forcedOpcode = s.answerAt 3 (Config.freeOpcode (s.trace.length + 3)) := by
  have htrace : s.stoppedPoll.trace.length + 2 = s.trace.length + 3 := by
    simp [State.stoppedPoll_eq]
  rw [State.forcedOpcode, htrace, State.stoppedPoll_eq]
  exact s.answerAt_perform [_] 2 _

theorem State.latchAfter_one (s : State) : s.latchAfter 1 = (s.interruptRequest || (s.replyAt 0).request) := by
  cases h : s.script <;> simp [State.latchAfter, State.replyAt, h, Reply.quiet]

/-- A core that a STOPPED poll wakes and that the environment then forces RST n on: whole state after the two steps. -/
theorem step_stoppedPoll_forcedRestart {s : State} {n : BitVec 3} (hturn : s.coresTurn = true) (hfault : s.fault = .none)
    (hlatch : s.latchAfter 1 = true) (hop : s.answerAt 3 (Config.freeOpcode (s.trace.length + 3)) = opRst n) :
    step s.stoppedPoll =
      .next ((State.perform
        { s.turnTaken.perform [s.silent 0 .stopped 0x00#8] with
          run := .running, interruptRequest := false, interruptCycle := false }
        [s.silent 1 .t1I (addrLow s.pc), s.silent 2 .t2 (0b00#2 ++ addrHigh s.pc), ⟨.t3, 0x00#8, opRst n⟩,
          s.silent 4 .t4 0x00#8, s.silent 5 .t5 (BitVec.ofNat 8 (8 * n.toNat))]).push (restartVector n)) := by
  have hpoll := State.stoppedPoll_of_latch hlatch
  rw [step_forcedRestart (n := n) (s.coresTurn_stoppedPoll.trans hturn) (hpoll ▸ hfault) (hpoll ▸ rfl) (hpoll ▸ hlatch)
    (s.forcedOpcode_stoppedPoll.trans hop)]
  simp only [State.restartTransactions, State.silent_stoppedPoll, State.pc_stoppedPoll]
  rw [hpoll]
  rfl

/-! ## The start of a program (R262) -/

/-- Every slot of a stack of zeros is 0 (R38). -/
theorem State.slot_of_zero_stack {s : State} (h : s.stack = Vector.replicate 8 0) (k : BitVec 3) : s.slot k = 0 := by
  simp [State.slot, h]

theorem State.pc_of_zero_stack {s : State} (h : s.stack = Vector.replicate 8 0) : s.pc = 0 := by
  rw [State.pc, State.slot_of_zero_stack h]
  rfl

/-- `Reset()` before its poll: every field of the core at its reset value (R38, R260). -/
def State.zeroed (s : State) : State :=
  { s with
    regs := ⟨0, 0, 0, 0, 0, 0, 0⟩
    flags := ⟨false, false, false, false⟩
    stack := Vector.replicate 8 0
    sp := 0
    interruptRequest := false
    interruptCycle := false
    run := .stopped
    fault := .none }

theorem State.resetCore_eq (s : State) : s.resetCore = s.zeroed.stoppedPoll := rfl

/-- What the start-up makes of a STOPPED core `s` that has the reset values: the core `u` about to run at 8n, the
transactions STOPPED, T1I, T2, T3, T4, T5 performed (R262). -/
structure StartsProgram (s : State) (n : BitVec 3) (u : State) : Prop where
  pc : u.pc = BitVec.ofNat 14 (8 * n.toNat)
  sp : u.sp = 1#3
  slot : u.slot 0#3 = 0x0000#16
  run : u.run = .running
  interruptCycle : u.interruptCycle = false
  interruptRequest : u.interruptRequest = ((s.script.drop 1).take 5).any Reply.request
  regs : u.regs = s.regs
  flags : u.flags = s.flags
  mem : u.mem = s.mem
  fault : u.fault = .none
  trace : u.trace = s.trace ++
    [s.silent 0 .stopped 0x00#8, s.silent 1 .t1I 0x00#8, s.silent 2 .t2 0x00#8, ⟨.t3, 0x00#8, opRst n⟩,
      s.silent 4 .t4 0x00#8, s.silent 5 .t5 (BitVec.ofNat 8 (8 * n.toNat))]

/-- The poll and the forced restart start the program, from any core whose address stack is as reset leaves it. -/
theorem step_stoppedPoll_startsProgram {s : State} {n : BitVec 3} (hturn : s.coresTurn = true) (hfault : s.fault = .none)
    (hsp : s.sp = 0#3) (hstack : s.stack = Vector.replicate 8 0) (hlatch : s.latchAfter 1 = true)
    (hop : s.answerAt 3 (Config.freeOpcode (s.trace.length + 3)) = opRst n) :
    ∃ u, step s.stoppedPoll = .next u ∧ StartsProgram s n u := by
  refine ⟨_, step_stoppedPoll_forcedRestart hturn hfault hlatch hop, ?_⟩
  rw [State.pc_of_zero_stack hstack]
  constructor
  case pc => rw [State.pc_push, restartVector_eq]
  case sp => exact congrArg (· + 1) hsp
  case slot =>
    have hne : (0#3 : BitVec 3) ≠ s.sp + 1 := by rw [hsp]; decide
    exact (State.slot_push_ne _ _ hne).trans (State.slot_of_zero_stack hstack _)
  case fault => exact hfault
  case trace => exact List.append_assoc ..
  all_goals rfl

end Sys2Proof.Machine

namespace Sys2Proof.Laws

open Sys2Proof.Machine

theorem step_reset {s : State} {rest : List Turn} (h : s.schedule = .reset :: rest) :
    step s = .next (State.stoppedPoll (State.zeroed { s with schedule := rest })) := by
  simp only [step, h, State.resetCore_eq]

/-- Settles O60: the reset zeroes the core and ends in the poll that wakes it. -/
theorem coldStartFromAnyState : Obligations.ColdStartFromAnyState := by
  intro s n rest hschedule hturn hrequest hop
  obtain ⟨u, hu, hstart⟩ := step_stoppedPoll_startsProgram (s := State.zeroed { s with schedule := rest }) (n := n)
    hturn rfl rfl rfl ((State.latchAfter_one _).trans hrequest) hop
  exact ⟨_, u, step_reset hschedule, hu, hstart.pc, hstart.sp, hstart.slot, hstart.run, hstart.interruptCycle,
    hstart.interruptRequest, hstart.regs, hstart.flags, hstart.mem, hstart.fault, hstart.trace⟩

/-- Settles O14: the core has the reset values, and the poll that wakes it is a step of its own. -/
theorem firstInstructionAfterResetIsForced : Obligations.FirstInstructionAfterResetIsForced := by
  intro n
  obtain ⟨u, hu, hstart⟩ := step_stoppedPoll_startsProgram (n := n)
    (s := { State.reset with
      script := [⟨none, true⟩, ⟨none, false⟩, ⟨none, false⟩, ⟨some (0b00#2 ++ n ++ 0b101#3), false⟩] })
    rfl rfl rfl rfl rfl rfl
  refine ⟨_, u, rfl, hu, hstart.pc, hstart.sp, hstart.slot, hstart.run, hstart.interruptRequest, ?_⟩
  rw [hstart.trace]
  rfl

/-- Settles O59: the STOPPED transaction of the reset writes nothing. -/
theorem resetMemoryIsWhatTheTraceWrote : Obligations.ResetMemoryIsWhatTheTraceWrote :=
  (Memory.replay_of_no_t1 [] (by simp [State.reset])).symm

end Sys2Proof.Laws
end

section
/-! Decoder and encoder, each the inverse of the other (O1, O2), and what follows: that every opcode byte is one
instruction (O3) of the length its bits say (O4). The key is the relation `Spells`: every well-formed instruction is
spelled by some bytes, and every opcode byte begins such a spelling. Then the bytes with ignored bits (O6) and the jump
(O45). -/

namespace Sys2Proof

/-! ## The decoder in closed form -/

theorem instrLength_cases (op : Byte) : instrLength op = 1 ∨ instrLength op = 2 ∨ instrLength op = 3 := by
  unfold instrLength
  split_ifs <;> decide

/-- What decoding answers: the opcode's length splits the string, and the bytes split off name the instruction. -/
theorem decode_eq_ok_iff {bs rest : List Byte} {i : Instr} :
    decode bs = .ok (i, rest) ↔
      ∃ op args, bs = op :: (args ++ rest) ∧ instrLength op = args.length + 1 ∧
        i = instrOf op (args.getD 0 0) (args.getD 1 0) := by
  constructor
  · intro h
    unfold decode at h
    split at h
    case h_1 => cases h
    case h_2 op tail =>
      split at h <;> cases h
      case h_1 hlen => exact ⟨op, [], rfl, hlen, rfl⟩
      case h_2 b1 hlen => exact ⟨op, [b1], rfl, hlen, rfl⟩
      case h_3 b1 b2 hlen => exact ⟨op, [b1, b2], rfl, hlen, rfl⟩
  · rintro ⟨op, args, rfl, hlen, rfl⟩
    rcases args with _ | ⟨b1, _ | ⟨b2, _ | ⟨b3, args⟩⟩⟩
    case cons.cons.cons =>
      have := instrLength_cases op
      simp only [List.length_cons] at hlen
      omega
    all_goals simp [decode, hlen]

/-! ## Field values and what they name (R85 to R88) -/

@[simp] theorem Reg.ofBits_bits (r : Reg) : Reg.ofBits r.bits = some r := by cases r <;> rfl

@[simp] theorem Reg.ofBits_selectorM : Reg.ofBits selectorM = none := rfl

@[simp] theorem AluOp.ofBits_bits (p : AluOp) : AluOp.ofBits p.bits = p := by cases p <;> rfl

@[simp] theorem Condition.ofBits_bits (cc : Condition) : Condition.ofBits cc.bits = cc := by cases cc <;> rfl

@[simp] theorem RotateOp.ofBits_bits (k : RotateOp) : RotateOp.ofBits k.bits = k := by cases k <;> rfl

/-- Every selector is a register's or the memory operand's. -/
theorem Reg.exists_bits (v : BitVec 3) : v = selectorM ∨ ∃ r : Reg, v = r.bits := by
  obtain ⟨k, hk, rfl⟩ := Laws.exists_ofNat v
  interval_cases k
  exacts [.inr ⟨.a, rfl⟩, .inr ⟨.b, rfl⟩, .inr ⟨.c, rfl⟩, .inr ⟨.d, rfl⟩, .inr ⟨.e, rfl⟩, .inr ⟨.h, rfl⟩, .inr ⟨.l, rfl⟩,
    .inl rfl]

theorem AluOp.exists_bits (v : BitVec 3) : ∃ p : AluOp, v = p.bits :=
  ⟨AluOp.ofBits v, by decide +revert⟩

/-- A D field is a sense and a condition (R84, R87). -/
theorem Condition.exists_bits (v : BitVec 3) : ∃ (t : Bool) (cc : Condition), v = BitVec.ofBool t ++ cc.bits :=
  ⟨v[2], Condition.ofBits (v.extractLsb' 0 2), by decide +revert⟩

/-- A D field is an ignored bit and a rotate variant (R88). -/
theorem RotateOp.exists_bits (v : BitVec 3) : ∃ (x : BitVec 1) (k : RotateOp), v = x ++ k.bits :=
  ⟨v.extractLsb' 2 1, RotateOp.ofBits (v.extractLsb' 0 2), by decide +revert⟩

/-! ## An opcode byte by its fields (R81) -/

theorem exists_fields (op : Byte) : ∃ (c : BitVec 2) (d s : BitVec 3), op = c ++ d ++ s :=
  ⟨fieldClass op, fieldD op, fieldS op, by decide +revert⟩

theorem getElem_zero_eq_fieldS (op : Byte) : op[0] = (fieldS op)[0] := by
  simp [fieldS]

theorem getElem_one_eq_fieldS (op : Byte) : op[1] = (fieldS op)[1] := by
  simp [fieldS]

theorem getElem_two_eq_fieldS (op : Byte) : op[2] = (fieldS op)[2] := by
  simp [fieldS]

theorem fieldCC_eq_fieldD (op : Byte) : fieldCC op = (fieldD op).extractLsb' 0 2 := by
  decide +revert

theorem ignoredBit_eq_fieldD (op : Byte) : op.extractLsb' 5 1 = (fieldD op).extractLsb' 2 1 := by
  decide +revert

/-! The parts of a D field that holds one bit and two. -/

@[simp] theorem extractLow_bit_append (x : BitVec 1) (v : BitVec 2) : BitVec.extractLsb' (n := 3) 0 2 (x ++ v) = v :=
  BitVec.extractLsb'_append_eq_right

@[simp] theorem extractHigh_bit_append (x : BitVec 1) (v : BitVec 2) : BitVec.extractLsb' (n := 3) 2 1 (x ++ v) = x :=
  BitVec.extractLsb'_append_eq_left

@[simp] theorem getElem_ofBool_append (t : Bool) (v : BitVec 2) : (BitVec.ofBool t ++ v)[2] = t := by
  decide +revert

/-- The sense and the condition of a conditional jump share the D field (R84). -/
theorem opJumpIf_eq (t : Bool) (cc : Condition) : opJumpIf t cc = 0b01#2 ++ (BitVec.ofBool t ++ cc.bits) ++ 0b000#3 := by
  rw [opJumpIf, BitVec.append_assoc (x₁ := 0b01#2)]
  rfl

/-- A port number is the D field and the high two bits of the S field (R91). -/
theorem opIo_append (d : BitVec 3) (m : BitVec 2) : opIo (d ++ m) = 0b01#2 ++ d ++ (m ++ 0b1#1) := by
  decide +revert

theorem fieldClass_opIo (p : BitVec 5) : fieldClass (opIo p) = 1 := by
  decide +revert

theorem getElem_zero_fieldS_opIo (p : BitVec 5) : (fieldS (opIo p))[0] = true := by
  decide +revert

theorem fieldPort_opIo (p : BitVec 5) : fieldPort (opIo p) = p := by
  decide +revert

/-! ## Length and class 1 by the D and S fields -/

theorem instrLength_eq_fields (op : Byte) :
    instrLength op =
      if fieldClass op = 1 ∧ (fieldS op)[0] = false then 3
      else if fieldClass op = 0 ∧ (fieldS op = 4 ∨ fieldS op = 6) then 2 else 1 := by
  rw [instrLength, getElem_zero_eq_fieldS]

theorem classOne_eq_fields (op b1 b2 : Byte) :
    classOne op b1 b2 =
      if (fieldS op)[0] then ioInstr (fieldPort op)
      else if (fieldS op)[2] then (if (fieldS op)[1] then .cal (fieldD op) b1 b2 else .jmp (fieldD op) b1 b2)
      else if (fieldS op)[1] then callIfInstr (fieldD op)[2] (Condition.ofBits ((fieldD op).extractLsb' 0 2)) b1 b2
      else jumpIfInstr (fieldD op)[2] (Condition.ofBits ((fieldD op).extractLsb' 0 2)) b1 b2 := by
  rw [classOne, getElem_zero_eq_fieldS, getElem_one_eq_fieldS, getElem_two_eq_fieldS, getElem_five_eq_fieldD,
    fieldCC_eq_fieldD]

/-! ## What an opcode with ignored bits spells, whatever follows it (R94) -/

theorem instrOf_opRet (x : BitVec 3) (b1 b2 : Byte) : instrOf (opRet x) b1 b2 = .ret x := by
  simp [instrOf, classZero, opRet]

theorem instrOf_opJmp (x : BitVec 3) (b1 b2 : Byte) : instrOf (opJmp x) b1 b2 = .jmp x b1 b2 := by
  simp [instrOf, classOne_eq_fields, opJmp]

theorem instrOf_opCal (x : BitVec 3) (b1 b2 : Byte) : instrOf (opCal x) b1 b2 = .cal x b1 b2 := by
  simp [instrOf, classOne_eq_fields, opCal]

theorem instrOf_opRotate (k : RotateOp) (x : BitVec 1) (b1 b2 : Byte) :
    instrOf (opRotate k x) b1 b2 = rotateInstr k x := by
  simp [instrOf, classZero, opRotate_eq, fieldCC_eq_fieldD, ignoredBit_eq_fieldD]

/-! ## Spelling -/

/-- `HLT` is well formed with the opcode bytes 0x00, 0x01 and 0xFF only (R92). -/
theorem wellFormed_hlt_iff (op : Byte) :
    (Instr.hlt op).wellFormed = true ↔ op = 0x00#8 ∨ op = 0x01#8 ∨ op = 0xFF#8 := by
  simp [Instr.wellFormed, or_assoc]

/-- The bytes `op :: args` spell `i`: it is well formed, the encoder writes them, and the decoder, which takes as many
bytes as `op` asks for, reads `i` from them. -/
structure Spells (op : Byte) (args : List Byte) (i : Instr) : Prop where
  wellFormed : i.wellFormed = true
  encode_eq : encode i = op :: args
  length_eq : instrLength op = args.length + 1
  instrOf_eq : instrOf op (args.getD 0 0) (args.getD 1 0) = i

namespace Spells

theorem load (dst src : Reg) : Spells (opLoad dst src) [] (loadInstr dst src) where
  wellFormed := by cases dst <;> cases src <;> rfl
  encode_eq := by cases dst <;> cases src <;> rfl
  length_eq := by simp [instrLength_eq_fields, opLoad]
  instrOf_eq := by simp [instrOf, classThree, opLoad]

theorem loadMem (dst : Reg) : Spells (opLoadM dst) [] (loadMemInstr dst) where
  wellFormed := by cases dst <;> rfl
  encode_eq := by cases dst <;> rfl
  length_eq := by simp [instrLength_eq_fields, opLoadM]
  instrOf_eq := by simp [instrOf, classThree, opLoadM]

theorem store (src : Reg) : Spells (opStore src) [] (storeInstr src) where
  wellFormed := by cases src <;> rfl
  encode_eq := by cases src <;> rfl
  length_eq := by simp [instrLength_eq_fields, opStore]
  instrOf_eq := by simp [instrOf, classThree, opStore]

theorem loadImm (dst : Reg) (imm : Byte) : Spells (opLoadImm dst) [imm] (loadImmInstr dst imm) where
  wellFormed := by cases dst <;> rfl
  encode_eq := by cases dst <;> rfl
  length_eq := by simp [instrLength_eq_fields, opLoadImm]
  instrOf_eq := by simp [instrOf, classZero, opLoadImm]

theorem storeImm (imm : Byte) : Spells opStoreImm [imm] (.lmi imm) := ⟨rfl, rfl, rfl, rfl⟩

theorem aluReg (p : AluOp) (r : Reg) : Spells (opAluReg p r) [] (aluRegInstr p r) where
  wellFormed := by cases p <;> cases r <;> rfl
  encode_eq := encode_aluRegInstr p r
  length_eq := by simp [instrLength_eq_fields, opAluReg]
  instrOf_eq := by simp [instrOf, classTwo, opAluReg]

theorem aluMem (p : AluOp) : Spells (opAluM p) [] (aluMemInstr p) where
  wellFormed := by cases p <;> rfl
  encode_eq := encode_aluMemInstr p
  length_eq := by simp [instrLength_eq_fields, opAluM]
  instrOf_eq := by simp [instrOf, classTwo, opAluM]

theorem aluImm (p : AluOp) (imm : Byte) : Spells (opAluImm p) [imm] (aluImmInstr p imm) where
  wellFormed := by cases p <;> rfl
  encode_eq := encode_aluImmInstr p imm
  length_eq := by simp [instrLength_eq_fields, opAluImm]
  instrOf_eq := by simp [instrOf, classZero, opAluImm]

theorem inc {r : Reg} (h : r ≠ .a) : Spells (opInc r) [] (incInstr r 0) := by
  cases r
  case a => exact absurd rfl h
  all_goals exact ⟨rfl, rfl, rfl, rfl⟩

theorem dec {r : Reg} (h : r ≠ .a) : Spells (opDec r) [] (decInstr r 0) := by
  cases r
  case a => exact absurd rfl h
  all_goals exact ⟨rfl, rfl, rfl, rfl⟩

theorem unimplInc : Spells 0x38#8 [] .unimpl_inm := ⟨rfl, rfl, rfl, rfl⟩

theorem unimplDec : Spells 0x39#8 [] .unimpl_dcm := ⟨rfl, rfl, rfl, rfl⟩

theorem rotate (k : RotateOp) (x : BitVec 1) : Spells (opRotate k x) [] (rotateInstr k x) where
  wellFormed := by cases k <;> rfl
  encode_eq := encode_rotateInstr k x
  length_eq := by simp [instrLength_eq_fields, opRotate_eq]
  instrOf_eq := instrOf_opRotate ..

theorem jmp (x : BitVec 3) (lo hi : Byte) : Spells (opJmp x) [lo, hi] (.jmp x lo hi) where
  wellFormed := rfl
  encode_eq := rfl
  length_eq := by simp [instrLength_eq_fields, opJmp]
  instrOf_eq := instrOf_opJmp ..

theorem jumpIf (t : Bool) (cc : Condition) (lo hi : Byte) : Spells (opJumpIf t cc) [lo, hi] (jumpIfInstr t cc lo hi) where
  wellFormed := by cases t <;> cases cc <;> rfl
  encode_eq := by cases t <;> cases cc <;> rfl
  length_eq := by simp [instrLength_eq_fields, opJumpIf_eq]
  instrOf_eq := by simp [instrOf, classOne_eq_fields, opJumpIf_eq]

theorem cal (x : BitVec 3) (lo hi : Byte) : Spells (opCal x) [lo, hi] (.cal x lo hi) where
  wellFormed := rfl
  encode_eq := rfl
  length_eq := by simp [instrLength_eq_fields, opCal]
  instrOf_eq := instrOf_opCal ..

theorem callIf (t : Bool) (cc : Condition) (lo hi : Byte) : Spells (opCallIf t cc) [lo, hi] (callIfInstr t cc lo hi) where
  wellFormed := by cases t <;> cases cc <;> rfl
  encode_eq := encode_callIfInstr t cc lo hi
  length_eq := by simp [instrLength_eq_fields, opCallIf_eq]
  instrOf_eq := by simp [instrOf, classOne_eq_fields, opCallIf_eq]

theorem ret (x : BitVec 3) : Spells (opRet x) [] (.ret x) where
  wellFormed := rfl
  encode_eq := rfl
  length_eq := by simp [instrLength_eq_fields, opRet]
  instrOf_eq := instrOf_opRet ..

theorem returnIf (t : Bool) (cc : Condition) : Spells (opReturnIf t cc) [] (returnIfInstr t cc) where
  wellFormed := by cases t <;> cases cc <;> rfl
  encode_eq := encode_returnIfInstr t cc
  length_eq := by simp [instrLength_eq_fields, opReturnIf_eq]
  instrOf_eq := by simp [instrOf, classZero, opReturnIf_eq, fieldCC_eq_fieldD, getElem_five_eq_fieldD]

theorem rst (n : BitVec 3) : Spells (opRst n) [] (rstInstr n) where
  wellFormed := by decide +revert
  encode_eq := encode_rstInstr n
  length_eq := by simp [instrLength_eq_fields, opRst]
  instrOf_eq := by simp [instrOf, classZero, opRst]

theorem io (p : BitVec 5) : Spells (opIo p) [] (ioInstr p) where
  wellFormed := by decide +revert
  encode_eq := by decide +revert
  length_eq := by simp [instrLength_eq_fields, fieldClass_opIo, getElem_zero_fieldS_opIo]
  instrOf_eq := by simp [instrOf, classOne_eq_fields, fieldClass_opIo, getElem_zero_fieldS_opIo, fieldPort_opIo]

theorem hlt {op : Byte} (h : op = 0x00#8 ∨ op = 0x01#8 ∨ op = 0xFF#8) : Spells op [] (.hlt op) := by
  obtain rfl | rfl | rfl := h <;> exact ⟨rfl, rfl, rfl, rfl⟩

theorem decode_append {op : Byte} {args : List Byte} {i : Instr} (h : Spells op args i) (rest : List Byte) :
    decode (op :: (args ++ rest)) = .ok (i, rest) :=
  decode_eq_ok_iff.2 ⟨op, args, rfl, h.length_eq, h.instrOf_eq.symm⟩

end Spells

/-- Every well-formed instruction is spelled by some bytes. -/
theorem exists_spells_of_wellFormed {i : Instr} (h : i.wellFormed = true) : ∃ op args, Spells op args i := by
  cases Laws.family i with
  | load dst src => exact ⟨_, _, .load dst src⟩
  | loadMem dst => exact ⟨_, _, .loadMem dst⟩
  | store src => exact ⟨_, _, .store src⟩
  | loadImm dst imm => exact ⟨_, _, .loadImm dst imm⟩
  | storeImm imm => exact ⟨_, _, .storeImm imm⟩
  | aluReg p r => exact ⟨_, _, .aluReg p r⟩
  | aluMem p => exact ⟨_, _, .aluMem p⟩
  | aluImm p imm => exact ⟨_, _, .aluImm p imm⟩
  | inc r hr => exact ⟨_, _, .inc hr⟩
  | dec r hr => exact ⟨_, _, .dec hr⟩
  | unimplInc => exact ⟨_, _, .unimplInc⟩
  | unimplDec => exact ⟨_, _, .unimplDec⟩
  | rotate k x => exact ⟨_, _, .rotate k x⟩
  | jmp x lo hi => exact ⟨_, _, .jmp x lo hi⟩
  | jumpIf t cc lo hi => exact ⟨_, _, .jumpIf t cc lo hi⟩
  | cal x lo hi => exact ⟨_, _, .cal x lo hi⟩
  | callIf t cc lo hi => exact ⟨_, _, .callIf t cc lo hi⟩
  | ret x => exact ⟨_, _, .ret x⟩
  | returnIf t cc => exact ⟨_, _, .returnIf t cc⟩
  | rst n => exact ⟨_, _, .rst n⟩
  | io p => exact ⟨_, _, .io p⟩
  | hlt op => exact ⟨_, _, .hlt ((wellFormed_hlt_iff op).1 h)⟩

/-! ## Every opcode byte begins a spelling (R95) -/

/-- The opcode byte spells an instruction, with the bytes that follow it where it asks for some, whatever they are. -/
inductive BeginsSpelling (op : Byte) : Prop
  | one {i : Instr} (h : Spells op [] i) : BeginsSpelling op
  | two {i : Byte → Instr} (h : ∀ b1, Spells op [b1] (i b1)) : BeginsSpelling op
  | three {i : Byte → Byte → Instr} (h : ∀ b1 b2, Spells op [b1, b2] (i b1 b2)) : BeginsSpelling op

/-- Class 0, by sub-operation (R83). -/
theorem beginsSpelling_classZero (d s : BitVec 3) : BeginsSpelling (0b00#2 ++ d ++ s) := by
  have hs : s = 0b000#3 ∨ s = 0b001#3 ∨ s = 0b010#3 ∨ s = 0b011#3 ∨ s = 0b100#3 ∨ s = 0b101#3 ∨ s = 0b110#3 ∨
      s = 0b111#3 := by
    decide +revert
  obtain rfl | rfl | rfl | rfl | rfl | rfl | rfl | rfl := hs
  · obtain rfl | ⟨r, rfl⟩ := Reg.exists_bits d
    · exact .one .unimplInc
    · by_cases hr : r = .a
      · subst hr
        exact .one (.hlt (.inl rfl))
      · exact .one (.inc hr)
  · obtain rfl | ⟨r, rfl⟩ := Reg.exists_bits d
    · exact .one .unimplDec
    · by_cases hr : r = .a
      · subst hr
        exact .one (.hlt (.inr (.inl rfl)))
      · exact .one (.dec hr)
  · obtain ⟨x, k, rfl⟩ := RotateOp.exists_bits d
    exact opRotate_eq k x ▸ .one (.rotate k x)
  · obtain ⟨t, cc, rfl⟩ := Condition.exists_bits d
    exact opReturnIf_eq t cc ▸ .one (.returnIf t cc)
  · obtain ⟨p, rfl⟩ := AluOp.exists_bits d
    exact .two (.aluImm p)
  · exact .one (.rst d)
  · obtain rfl | ⟨r, rfl⟩ := Reg.exists_bits d
    · exact .two .storeImm
    · exact .two (.loadImm r)
  · exact .one (.ret d)

/-- Class 1: input and output where bit 0 is 1, else jumps and calls (R82, R84, R91). -/
theorem beginsSpelling_classOne (d s : BitVec 3) : BeginsSpelling (0b01#2 ++ d ++ s) := by
  have hs : (∃ m : BitVec 2, s = m ++ 0b1#1) ∨ s = 0b000#3 ∨ s = 0b010#3 ∨ s = 0b100#3 ∨ s = 0b110#3 := by
    decide +revert
  obtain ⟨m, rfl⟩ | rfl | rfl | rfl | rfl := hs
  · exact opIo_append d m ▸ .one (.io (d ++ m))
  · obtain ⟨t, cc, rfl⟩ := Condition.exists_bits d
    exact opJumpIf_eq t cc ▸ .three (.jumpIf t cc)
  · obtain ⟨t, cc, rfl⟩ := Condition.exists_bits d
    exact opCallIf_eq t cc ▸ .three (.callIf t cc)
  · exact .three (.jmp d)
  · exact .three (.cal d)

/-- Class 2: the ALU register and memory forms (R82). -/
theorem beginsSpelling_classTwo (d s : BitVec 3) : BeginsSpelling (0b10#2 ++ d ++ s) := by
  obtain ⟨p, rfl⟩ := AluOp.exists_bits d
  obtain rfl | ⟨r, rfl⟩ := Reg.exists_bits s
  · exact .one (.aluMem p)
  · exact .one (.aluReg p r)

/-- Class 3: the loads, and `HLT` where both selectors are memory's (R82, R92). -/
theorem beginsSpelling_classThree (d s : BitVec 3) : BeginsSpelling (0b11#2 ++ d ++ s) := by
  obtain rfl | ⟨dst, rfl⟩ := Reg.exists_bits d <;> obtain rfl | ⟨src, rfl⟩ := Reg.exists_bits s
  · exact .one (.hlt (.inr (.inr rfl)))
  · exact .one (.store src)
  · exact .one (.loadMem dst)
  · exact .one (.load dst src)

theorem beginsSpelling (op : Byte) : BeginsSpelling op := by
  obtain ⟨c, d, s, rfl⟩ := exists_fields op
  obtain ⟨k, hk, rfl⟩ := Laws.exists_ofNat c
  interval_cases k
  · exact beginsSpelling_classZero d s
  · exact beginsSpelling_classOne d s
  · exact beginsSpelling_classTwo d s
  · exact beginsSpelling_classThree d s

/-- An opcode byte with as many bytes after it as it asks for spells an instruction. -/
theorem exists_spells_of_length {op : Byte} {args : List Byte} (hlen : instrLength op = args.length + 1) :
    ∃ i, Spells op args i := by
  cases beginsSpelling op with
  | one h =>
    obtain rfl : args = [] := List.length_eq_zero_iff.1 (by simpa [h.length_eq] using hlen.symm)
    exact ⟨_, h⟩
  | two h =>
    obtain ⟨b1, rfl⟩ := List.length_eq_one_iff.1 (by simpa [(h 0).length_eq] using hlen.symm)
    exact ⟨_, h b1⟩
  | three h =>
    obtain ⟨b1, b2, rfl⟩ := List.length_eq_two.1 (by simpa [(h 0 0).length_eq] using hlen.symm)
    exact ⟨_, h b1 b2⟩

/-- Decoding answers the instruction that the bytes it takes spell. -/
theorem exists_spells_of_decode {bs rest : List Byte} {i : Instr} (h : decode bs = .ok (i, rest)) :
    ∃ op args, bs = op :: (args ++ rest) ∧ Spells op args i := by
  obtain ⟨op, args, rfl, hlen, rfl⟩ := decode_eq_ok_iff.1 h
  obtain ⟨i, hi⟩ := exists_spells_of_length hlen
  exact ⟨op, args, rfl, hi.instrOf_eq.symm ▸ hi⟩

/-- Three bytes are enough for any opcode. -/
theorem exists_decode (op b1 b2 : Byte) (rest : List Byte) : ∃ i r, decode (op :: b1 :: b2 :: rest) = .ok (i, r) := by
  cases beginsSpelling op with
  | one h => exact ⟨_, _, h.decode_append _⟩
  | two h => exact ⟨_, _, (h b1).decode_append _⟩
  | three h => exact ⟨_, _, (h b1 b2).decode_append _⟩

/-- A one-byte instruction is decoded from its own byte only. -/
theorem Spells.eq_iff_of_decode {c op : Byte} {i j : Instr} {bs rest : List Byte} (hj : Spells c [] j)
    (h : decode (op :: bs) = .ok (i, rest)) : i = j ↔ op = c := by
  obtain ⟨op', args, hbytes, hi⟩ := exists_spells_of_decode h
  obtain ⟨rfl, rfl⟩ := List.cons.inj hbytes
  constructor
  · rintro rfl
    exact (List.cons.inj (hi.encode_eq.symm.trans hj.encode_eq)).1
  · rintro rfl
    exact congrArg Prod.fst (Except.ok.inj (h.symm.trans (hj.decode_append _)))

end Sys2Proof

namespace Sys2Proof.Laws

open Sys2Proof.Machine

/-- Settles O1: a well-formed instruction is spelled by its encoding. -/
theorem decodeInvertsEncode : Obligations.DecodeInvertsEncode := by
  intro i rest hi
  obtain ⟨op, args, h⟩ := exists_spells_of_wellFormed hi
  rw [h.encode_eq]
  exact h.decode_append rest

/-- Settles O2: the bytes that decoding takes spell what it answers. -/
theorem encodeInvertsDecode : Obligations.EncodeInvertsDecode := by
  intro bs i rest h
  obtain ⟨op, args, rfl, hi⟩ := exists_spells_of_decode h
  exact ⟨hi.wellFormed, congrArg (· ++ rest) hi.encode_eq⟩

/-- Settles O3: every opcode byte begins a spelling, and only its own byte spells a one-byte instruction. -/
theorem everyOpcodeByteIsOneInstruction : Obligations.EveryOpcodeByteIsOneInstruction := by
  intro op b1 b2 rest
  obtain ⟨i, r, h⟩ := exists_decode op b1 b2 rest
  refine ⟨i, r, h, Spells.unimplInc.eq_iff_of_decode h, Spells.unimplDec.eq_iff_of_decode h, ?_, fun hop => ?_⟩
  · rintro rfl
    exact (wellFormed_hlt_iff op).1 (encodeInvertsDecode _ _ _ h).1
  · exact ((Spells.hlt hop).eq_iff_of_decode h).2 rfl

/-- Settles O4: the spelling is as long as its opcode says. -/
theorem lengthFollowsOpcode : Obligations.LengthFollowsOpcode := by
  intro op b1 b2 rest i r h
  obtain ⟨op', args, hbytes, hi⟩ := exists_spells_of_decode h
  obtain ⟨rfl, htail⟩ := List.cons.inj hbytes
  rw [hi.encode_eq]
  refine ⟨hi.length_eq.symm, ?_⟩
  rw [htail, List.length_cons, List.drop_succ_cons, List.drop_left]

/-! ## Bytes with ignored bits (R94) -/

theorem exec_instrOf_opRet (x : BitVec 3) (lo hi : Byte) (s : State) :
    exec (instrOf (opRet x) lo hi) s = .next (returnNow s) := by
  rw [instrOf_opRet]
  rfl

theorem exec_instrOf_opJmp (x : BitVec 3) (lo hi : Byte) (s : State) :
    exec (instrOf (opJmp x) lo hi) s = .next (jumpTo (target14 lo hi) s) := by
  rw [instrOf_opJmp]
  rfl

theorem exec_instrOf_opCal (x : BitVec 3) (lo hi : Byte) (s : State) :
    exec (instrOf (opCal x) lo hi) s = .next (callTo (target14 lo hi) s) := by
  rw [instrOf_opCal]
  rfl

theorem exec_instrOf_opRotate (k : RotateOp) (x : BitVec 1) (lo hi : Byte) (s : State) :
    exec (instrOf (opRotate k x) lo hi) s = .next (rotate k s) := by
  rw [instrOf_opRotate, exec_rotateInstr]

theorem exec_instrOf_halting {op : Byte} (h : op = 0x00#8 ∨ op = 0x01#8 ∨ op = 0xFF#8) (lo hi : Byte) (s : State) :
    exec (instrOf op lo hi) s = .next (halt s) := by
  obtain rfl | rfl | rfl := h <;> rfl

/-- The rotate bytes, ignored bit included, written with their low five bits as one field. -/
theorem append_five_eq_opRotate (k : RotateOp) (y : BitVec 1) : 0b00#2 ++ y ++ (k.bits ++ 0b010#3) = opRotate k y := by
  cases k <;> decide +revert

/-- Seven bits 0 and an ignored one are 0x00 or 0x01 (R92). -/
theorem zeros_append_eq_or (y : BitVec 1) : 0b0000000#7 ++ y = 0x00#8 ∨ 0b0000000#7 ++ y = 0x01#8 := by
  decide +revert

/-- Settles O6: no meaning reads the ignored bits. -/
theorem aliasBytesExecuteAlike : Obligations.AliasBytesExecuteAlike := by
  intro x y lo hi s
  have hrotate (k : RotateOp) :
      exec (instrOf (0b00#2 ++ y ++ (k.bits ++ 0b010#3)) lo hi) s = exec (instrOf (opRotate k 0#1) lo hi) s := by
    rw [append_five_eq_opRotate, exec_instrOf_opRotate, exec_instrOf_opRotate]
  refine ⟨?ret, ?jmp, ?cal, hrotate .leftCircular, hrotate .rightCircular, hrotate .leftThroughCarry,
    hrotate .rightThroughCarry, ?zeroOrOne, ?allOnes⟩
  case ret => exact (exec_instrOf_opRet x lo hi s).trans (exec_instrOf_opRet 0#3 lo hi s).symm
  case jmp => exact (exec_instrOf_opJmp x lo hi s).trans (exec_instrOf_opJmp 0#3 lo hi s).symm
  case cal => exact (exec_instrOf_opCal x lo hi s).trans (exec_instrOf_opCal 0#3 lo hi s).symm
  case zeroOrOne =>
    rw [exec_instrOf_halting ((zeros_append_eq_or y).imp_right .inl), exec_instrOf_halting (.inl rfl)]
  case allOnes =>
    rw [exec_instrOf_halting (.inr (.inr rfl)), exec_instrOf_halting (.inl rfl)]

/-! ## The jump (R191) -/

/-- A taken jump is two transactions and a new `pc` (R191). -/
theorem jumpTo_eq (a : Address) (s : State) :
    jumpTo a s = (s.perform [s.silent 0 .t4 ((addrHigh a).zeroExtend 8), s.silent 1 .t5 (addrLow a)]).setPc a := by
  rw [jumpTo, State.showTarget_eq]

/-- Settles O45: a jump is two transactions that show the target, and `pc` set to it. -/
theorem jumpGoesToTarget : Obligations.JumpGoesToTarget := by
  intro x lo hi s
  refine ⟨rfl, jumpTo (target14 lo hi) s, rfl, ?_⟩
  rw [jumpTo_eq, zeroExtend_addrHigh_target14, addrLow_target14]
  refine ⟨(State.pc_setPc ..).trans (target14_eq lo hi), ?_⟩
  rw [← zeroExtend_target14]
  rfl

end Sys2Proof.Laws
end

section
/-! Conditional jumps and calls, taken and not (O46, O48), the return from a forced restart (O54), and how many
transactions the step of a RUNNING core has (O18). -/

namespace Sys2Proof.Machine

/-! ## Conditional transfers (R192, R193, R195, R196) -/

/-- A condition holds where the selected flag equals the sense (R107). -/
theorem Flags.cond_iff (f : Flags) (t : Bool) (cc : Condition) : f.cond t cc = true ↔ f.select cc = t := beq_iff_eq

/-- A jump to the target of two address bytes: whole next state (R191). -/
theorem jumpTo_target14 (lo hi : Byte) (s : State) :
    jumpTo (target14 lo hi) s =
      { s.perform [s.silent 0 .t4 (BitVec.ofNat 8 (hi.toNat % 64)), s.silent 1 .t5 lo] with
        stack := s.stack.set s.sp.toNat (BitVec.ofNat 16 (targetNat lo hi)) s.sp.isLt } := by
  rw [Laws.jumpTo_eq, zeroExtend_addrHigh_target14, addrLow_target14, ← zeroExtend_target14]
  rfl

/-- A call of the target of two address bytes: whole next state (R194). -/
theorem callTo_target14 (lo hi : Byte) (s : State) :
    callTo (target14 lo hi) s =
      { s.perform [s.silent 0 .t4 (BitVec.ofNat 8 (hi.toNat % 64)), s.silent 1 .t5 lo] with
        sp := s.sp + 1
        stack := s.stack.set (s.sp + 1).toNat (BitVec.ofNat 16 (targetNat lo hi)) (s.sp + 1).isLt } := by
  rw [callTo_eq, zeroExtend_addrHigh_target14, addrLow_target14, ← zeroExtend_target14]
  rfl

/-! ## The return from a push (R200, R204) -/

/-- A push and a return come to a run of transactions and the address left in the slot above. -/
theorem returnNow_push (s : State) (a : Address) : ∃ ts, returnNow (s.push a) = (s.perform ts).setSlot (s.sp + 1) a := by
  rw [returnNow_eq, State.perform_push, State.pop_push]
  exact ⟨_, rfl⟩

/-- A return resumes at the address that a push left behind. -/
theorem returnNow_push_resumes (s : State) (a : Address) :
    (returnNow (s.push a)).pc = s.pc ∧ (returnNow (s.push a)).sp = s.sp := by
  obtain ⟨ts, h⟩ := returnNow_push s a
  have hne : s.sp ≠ s.sp + 1 := by bv_omega
  rw [h]
  exact ⟨State.pc_setSlot_ne (s.perform ts) a hne, rfl⟩

end Sys2Proof.Machine

namespace Sys2Proof.Laws

open Sys2Proof.Machine

/-- Settles O46: the jump's whole next state where the condition holds, else the state itself. -/
theorem conditionalJumpsFollowTheirFlag : Obligations.ConditionalJumpsFollowTheirFlag := by
  intro sense cc lo hi s
  refine ⟨(Spells.jumpIf sense cc lo hi).encode_eq, ?_⟩
  simp only [exec_jumpIfInstr, jumpIf, Flags.cond_iff, jumpTo_target14]

/-- Settles O48: the call's whole next state where the condition holds, else the state itself. -/
theorem conditionalCallsFollowTheirFlag : Obligations.ConditionalCallsFollowTheirFlag := by
  intro sense cc lo hi s
  refine ⟨encode_callIfInstr sense cc lo hi, ?_⟩
  simp only [exec_callIfInstr, callIf, Flags.cond_iff, callTo_target14]

/-- Settles O54: the forced restart is a push of its vector, so the interrupted slot is the one left behind, and a
return comes back to it. -/
theorem forcedRestartSavesInterruptedAddress : Obligations.ForcedRestartSavesInterruptedAddress := by
  intro s n hturn hfault hrun hrequest hop
  have hne : s.sp ≠ s.sp + 1 := by bv_omega
  refine ⟨_, step_forcedRestart hturn hfault hrun hrequest hop, ?pc, rfl, ?slot, rfl, rfl, rfl, rfl, rfl, ?resumes⟩
  case pc => rw [State.pc_push, restartVector_eq]
  case slot => exact State.slot_push_ne _ _ hne
  case resumes =>
    intro x u hret
    cases hret
    exact returnNow_push_resumes _ _

/-! ## How long a step is (R270) -/

/-- A fetch adds three transactions for each byte of the instruction, of which there is at least one (R58, R59). -/
theorem fetchInstr_trace_length (s : State) :
    s.fetchInstr.2.trace.length = s.trace.length + 3 * (encode s.fetchInstr.1).length ∧
      1 ≤ (encode s.fetchInstr.1).length := by
  obtain ⟨ts, stack, hfetch, -, hlen, hpos⟩ := fetchInstr_shape s
  refine ⟨?_, hpos⟩
  rw [hfetch, ← hlen, State.perform_trace, List.length_append]

/-- An instruction adds at most what its fetch leaves of eleven transactions. -/
theorem exec_trace_length {i : Instr} {s t : State} (h : exec i s = .next t) :
    s.trace.length ≤ t.trace.length ∧ 3 * (encode i).length + t.trace.length ≤ s.trace.length + 11 := by
  obtain ⟨ts, regs, flags, stack, sp, mem, run, fault, hshape, limits⟩ := exec_shape i s
  cases h.symm.trans hshape
  have hlimit := limits.length
  simp only [State.perform_trace, List.length_append]
  omega

theorem sampleInterrupt_trace (s : State) : s.sampleInterrupt.trace = s.trace := by
  unfold State.sampleInterrupt
  split <;> rfl

/-- Settles O18: the fetch has three transactions or more, and the instruction what is left of eleven. -/
theorem runningStepHasThreeToElevenTransactions : Obligations.RunningStepHasThreeToElevenTransactions := by
  intro s t hturn hfault hrun h
  rw [step_coresTurn s hturn] at h
  obtain ⟨-, ⟨hstopped, -⟩ | ⟨-, u, hexec, rfl⟩⟩ := coreStep_cases h
  · cases hrun.symm.trans hstopped
  · obtain ⟨hfetch, hpos⟩ := fetchInstr_trace_length s.turnTaken.sampleInterrupt
    obtain ⟨hlow, hhigh⟩ := exec_trace_length hexec
    rw [sampleInterrupt_trace, State.turnTaken_trace] at hfetch
    rw [State.endCycle_trace]
    omega

end Sys2Proof.Laws
end

section
/-! The load instructions: whole next state of each of the five forms (O29, O30, O31, O32, O33), and one word of each
instruction family (O5). -/

namespace Sys2Proof.Machine

/-! ## Registers -/

/-- A register that takes its own value changes nothing (R120). -/
@[simp] theorem RegFile.set_get_self (r : RegFile) (i : Reg) : r.set i (r.get i) = r := by
  cases i <;> rfl

/-! ## The memory operand (R23) -/

/-- The address of the memory operand is put together from L and H as a target is from two address bytes. -/
theorem State.memAddr_eq (s : State) : s.memAddr = BitVec.ofNat 14 (s.regs.h.toNat % 64 * 256 + s.regs.l.toNat) :=
  target14_eq s.regs.l s.regs.h

/-- A write cycle that comes after transactions: one run of all of them, and one byte of memory (R61). -/
theorem State.memWrite_perform (s : State) (ts : List Transaction) (v : Byte) :
    (s.perform ts).memWrite v =
      { s.perform (ts ++ [s.silent ts.length .t1 s.regs.l,
            s.silent (ts.length + 1) .t2 (0b11#2 ++ s.regs.h.extractLsb' 0 6), s.silent (ts.length + 2) .t3 v]) with
        mem := s.mem.write s.memAddr v } := by
  simp [State.memWrite_eq]

/-- `LMI`, its operand fetched, is a write cycle and nothing else (R124). -/
theorem exec_lmi (imm : Byte) (s : State) : exec (.lmi imm) s = .next (s.memWrite imm) := rfl

end Sys2Proof.Machine

namespace Sys2Proof.Laws

open Sys2Proof.Machine

/-- Settles O29: two transactions and a register, which with itself as the source keeps its value. -/
theorem loadCopiesRegister : Obligations.LoadCopiesRegister := by
  intro dst src s
  refine ⟨(Spells.load dst src).encode_eq, ?_, RegFile.set_get_self s.regs dst⟩
  rw [exec_loadInstr, loadReg_some]
  rfl

/-- Settles O30: the read cycle, two transactions that show its answer, and the register that takes it. -/
theorem loadReadsMemoryOperand : Obligations.LoadReadsMemoryOperand := by
  intro dst s
  refine ⟨(Spells.loadMem dst).encode_eq, ?_⟩
  rw [exec_loadMemInstr, loadReg_none, State.memRead_eq, State.memAddr_eq, State.perform_perform]
  rfl

/-- Settles O31: a transaction that shows the register, the write cycle, and one cell of memory. -/
theorem storeWritesMemoryOperand : Obligations.StoreWritesMemoryOperand := by
  intro src s
  refine ⟨(Spells.store src).encode_eq, ?_, fun c hc => Memory.read_write_ne s.mem _ hc⟩
  rw [exec_storeInstr, storeReg_eq, State.memWrite_perform, State.memAddr_eq]
  rfl

/-- Settles O32: two transactions and a register. -/
theorem loadImmediateSetsRegister : Obligations.LoadImmediateSetsRegister := by
  intro dst imm s
  refine ⟨(Spells.loadImm dst imm).encode_eq, ?_⟩
  rw [exec_loadImmInstr, loadImm_eq]
  rfl

/-- Settles O5: each word is the spelling of its family with the fields that the spec's example gives. -/
theorem sampleWordsDecode : Obligations.SampleWordsDecode :=
  ⟨(Spells.load .a .b).decode_append [], (Spells.loadMem .c).decode_append [], (Spells.store .d).decode_append [],
    (Spells.loadImm .e 0x7F#8).decode_append [], (Spells.aluReg .add .b).decode_append [],
    (Spells.aluImm .add 0x20#8).decode_append [], (Spells.inc (r := .l) nofun).decode_append [],
    (Spells.dec (r := .h) nofun).decode_append [], (Spells.rotate .leftThroughCarry 0#1).decode_append [],
    (Spells.jumpIf true .zero 0x34#8 0x12#8).decode_append [], (Spells.rst 5#3).decode_append [],
    (Spells.io 3#5).decode_append [], (Spells.io 17#5).decode_append [],
    (Spells.hlt (.inr (.inr rfl))).decode_append []⟩

/-- Settles O33: the write cycle and one cell of memory. -/
theorem storeImmediateWritesMemoryOperand : Obligations.StoreImmediateWritesMemoryOperand := by
  intro imm s
  refine ⟨(Spells.storeImm imm).encode_eq, ?_, fun c hc => Memory.read_write_ne s.mem _ hc⟩
  rw [exec_lmi, State.memWrite_eq, State.memAddr_eq]

end Sys2Proof.Laws
end

section
/-! The ALU family: the nine-bit result as a natural number (O37), the whole next state of the register, memory and
immediate forms (O34, O35, O36), and two identities of the operations: add undoes subtract (O38), and the carry forms
with carry 0 (O39). -/

namespace Sys2Proof.Machine

/-! ## The nine-bit result (R154) -/

theorem toNat_carryIn (cin : Bool) : ((BitVec.ofBool cin).zeroExtend 9).toNat = cin.toNat := by
  cases cin <;> rfl

/-- The ALU function is the table over natural numbers: no sum reaches 2^9, and a difference wraps there. -/
theorem alu_toNat (op : AluOp) (a b : Byte) (cin : Bool) :
    (alu op a b cin).toNat = aluWide op a.toNat b.toNat cin.toNat := by
  have ha := a.isLt
  have hb := b.isLt
  have hcin := Bool.toNat_le cin
  have hzext (v : Byte) : (v.zeroExtend 9).toNat = v.toNat := BitVec.toNat_setWidth_of_le (by decide)
  cases op
  case add => simp only [alu, aluWide, BitVec.toNat_add, hzext]; omega
  case addCarry => simp only [alu, aluWide, BitVec.toNat_add, hzext, toNat_carryIn]; omega
  case sub | compare => simp only [alu, aluWide, BitVec.toNat_sub, hzext]; omega
  case subBorrow => simp only [alu, aluWide, BitVec.toNat_sub, hzext, toNat_carryIn]; omega
  case and => rw [alu, hzext, BitVec.toNat_and, aluWide]
  case xor => rw [alu, hzext, BitVec.toNat_xor, aluWide]
  case or => rw [alu, hzext, BitVec.toNat_or, aluWide]

/-- The top bit says whether the number reaches the power of two it stands for. -/
theorem getElem_top_eq {n : Nat} (w : BitVec (n + 1)) : w[n] = decide (2 ^ n ≤ w.toNat) := by
  rw [← BitVec.getLsbD_eq_getElem]
  exact BitVec.msb_eq_decide w

theorem getElem_eight_eq (w : BitVec 9) : w[8] = decide (256 ≤ w.toNat) := getElem_top_eq w

/-- The borrow: bit 8 of a result that is a difference modulo 2^9 of a byte and at most 2^8. -/
theorem getElem_eight_of_difference {w : BitVec 9} {a m : Nat} (ha : a < 256) (hm : m ≤ 256)
    (hw : w.toNat = (a + 512 - m) % 512) : w[8] = decide (a < m) := by
  rw [getElem_eight_eq, hw, decide_eq_decide]
  omega

theorem aluResult_eq_ofNat (w : BitVec 9) : aluResult w = BitVec.ofNat 8 w.toNat := by
  apply BitVec.eq_of_toNat_eq
  rw [aluResult, BitVec.extractLsb'_toNat, Nat.shiftRight_zero, BitVec.toNat_ofNat]

/-! ## Flags and A from the result (R28, R155) -/

theorem popcount_eq_length_filter (v : Byte) :
    popcount v = ((List.range 8).filter (fun k => v.toNat.testBit k)).length := by
  have hbit (b : Bool) : b.toNat = if b then 1 else 0 := by cases b <;> rfl
  simp only [popcount, BitVec.getElem_eq_testBit_toNat, hbit, ← List.countP_eq_length_filter, List.range_succ,
    List.range_zero, List.countP_append, List.countP_singleton, List.countP_nil, Nat.zero_add]

/-- Zero, sign and parity written from a byte, carry kept (R28). -/
theorem Flags.zsp_eq_flagsOf (f : Flags) (v : Byte) : f.zsp v = flagsOf f.c v := by
  have hzero : (v == 0) = decide (v.toNat = 0) := by
    rw [beq_eq_decide, decide_eq_decide, BitVec.toNat_eq]
    rfl
  have hsign : v[7] = decide (128 ≤ v.toNat) := getElem_top_eq v
  have hparity : evenParity v =
      decide (((List.range 8).filter (fun k => v.toNat.testBit k)).length % 2 = 0) := by
    rw [evenParity, popcount_eq_length_filter, beq_eq_decide]
  rw [Flags.zsp, flagsOf, hzero, hsign, hparity]

theorem Flags.afterAlu_eq_flagsOf (f : Flags) (op : AluOp) (w : BitVec 9) :
    f.afterAlu op w = flagsOf (if aluKeepsCarry op then f.c else w[8]) (aluResult w) := by
  rw [Flags.afterAlu, Flags.zsp_eq_flagsOf]
  cases op <;> rfl

theorem aluWith_regs (op : AluOp) (b : Byte) (s : State) :
    (aluWith op b s).regs =
      if op = .compare then s.regs else s.regs.set .a (aluResult (alu op s.regs.a b s.flags.c)) := by
  rw [aluWith_eq]
  cases op <;> rfl

/-! ## Whole next state -/

/-- What an ALU operation with operand `b` in hand makes of `s`, over natural numbers: T4 shows the operand and T5 the
result, A takes it but for compare, and the flags are written from it. -/
def State.aluNext (s : State) (op : AluOp) (b : Byte) : State :=
  let w := aluWide op s.regs.a.toNat b.toNat s.flags.c.toNat
  let res : Byte := BitVec.ofNat 8 w
  { s.perform [s.silent 0 .t4 b, s.silent 1 .t5 res] with
    regs := if op = .compare then s.regs else s.regs.set .a res
    flags := flagsOf (if aluKeepsCarry op then s.flags.c else decide (256 ≤ w)) res }

theorem aluWith_eq_aluNext (op : AluOp) (b : Byte) (s : State) : aluWith op b s = s.aluNext op b := by
  have hres : aluResult (alu op s.regs.a b s.flags.c) =
      BitVec.ofNat 8 (aluWide op s.regs.a.toNat b.toNat s.flags.c.toNat) := by
    rw [aluResult_eq_ofNat, alu_toNat]
  have hcarry : (alu op s.regs.a b s.flags.c)[8] =
      decide (256 ≤ aluWide op s.regs.a.toNat b.toNat s.flags.c.toNat) := by
    rw [getElem_eight_eq, alu_toNat]
  simp only [aluWith_eq, Flags.afterAlu_eq_flagsOf, hres, hcarry]
  cases op <;> rfl

end Sys2Proof.Machine

namespace Sys2Proof.Laws

open Sys2Proof.Machine

/-- Settles O37: the three borrows are differences modulo 2^9, with nothing, or the carry, taken beside the operand. -/
theorem aluFunctionTable : Obligations.AluFunctionTable := by
  intro op a b cin
  have ha := a.isLt
  have hb := b.isLt
  have hcin := Bool.toNat_le cin
  refine ⟨alu_toNat op a b cin, by omega, ?sub, ?subBorrow, ?compare⟩
  case sub => exact getElem_eight_of_difference ha hb.le (alu_toNat .sub a b cin)
  case subBorrow =>
    refine getElem_eight_of_difference ha (by omega) ((alu_toNat .subBorrow a b cin).trans ?_)
    rw [aluWide, Nat.sub_sub]
  case compare => exact getElem_eight_of_difference ha hb.le (alu_toNat .compare a b cin)

/-- Settles O34: the operand is the register. -/
theorem aluRegisterForms : Obligations.AluRegisterForms := by
  intro op r s
  refine ⟨encode_aluRegInstr op r, ?_⟩
  rw [exec_aluRegInstr, aluFrom, aluWith_eq_aluNext]
  rfl

/-- Settles O35: the operand is the answer of the read cycle that comes first. -/
theorem aluMemoryForms : Obligations.AluMemoryForms := by
  intro op s
  refine ⟨encode_aluMemInstr op, ?_⟩
  rw [exec_aluMemInstr, aluFrom, State.readSel, State.memRead_eq, State.memAddr_eq, aluWith_eq_aluNext, State.aluNext,
    State.perform_perform, State.silent_perform, State.silent_perform]
  rfl

/-- Settles O36: the operand is the byte fetched. -/
theorem aluImmediateForms : Obligations.AluImmediateForms := by
  intro op b s
  refine ⟨encode_aluImmInstr op b, ?_⟩
  rw [exec_aluImmInstr, aluWith_eq_aluNext]
  rfl

end Sys2Proof.Laws

namespace Sys2Proof.Machine

/-! ## Add undoes subtract (R157) -/

/-- Modulo 2^8 the sum of the difference and what was taken away is the byte itself, whatever the carries. -/
theorem aluResult_add_sub (a b : Byte) (cin cin' : Bool) :
    aluResult (alu .add (aluResult (alu .sub a b cin)) b cin') = a := by
  have ha := a.isLt
  have hb := b.isLt
  apply BitVec.eq_of_toNat_eq
  simp only [aluResult_eq_ofNat, alu_toNat, aluWide, BitVec.toNat_ofNat]
  omega

theorem RegFile.set_set (r : RegFile) (i : Reg) (v w : Byte) : (r.set i v).set i w = r.set i w := by
  cases i <;> rfl

theorem aluWith_add_sub_regs (b : Byte) (s : State) : (aluWith .add b (aluWith .sub b s)).regs = s.regs := by
  rw [aluWith_regs, aluWith_regs, if_neg nofun, if_neg nofun, RegFile.set_set]
  calc s.regs.set .a (aluResult (alu .add (aluResult (alu .sub s.regs.a b s.flags.c)) b (aluWith .sub b s).flags.c))
    _ = s.regs.set .a (s.regs.get .a) := by rw [aluResult_add_sub]; rfl
    _ = s.regs := RegFile.set_get_self s.regs .a

/-- No ALU operation writes another register than A. -/
theorem aluWith_get_of_ne (op : AluOp) (b : Byte) (s : State) {r : Reg} (h : r ≠ .a) :
    (aluWith op b s).regs.get r = s.regs.get r := by
  rw [aluWith_regs]
  split
  · rfl
  · exact RegFile.get_set_ne s.regs _ h

/-! ## The carry forms with carry 0 (R157) -/

theorem alu_addCarry_false (a b : Byte) : alu .addCarry a b false = alu .add a b false := BitVec.add_zero _

theorem alu_subBorrow_false (a b : Byte) : alu .subBorrow a b false = alu .sub a b false := BitVec.sub_zero _

/-- An operation is told by its result, and by whether it writes carry and A. -/
theorem aluWith_congr {p q : AluOp} {b : Byte} {s : State} (hresult : alu p s.regs.a b s.flags.c = alu q s.regs.a b s.flags.c)
    (hcarry : aluWritesCarry p = aluWritesCarry q) (hA : aluWritesA p = aluWritesA q) : aluWith p b s = aluWith q b s := by
  rw [aluWith, aluWith, Flags.afterAlu, Flags.afterAlu, hresult, hcarry, hA]

theorem aluWith_addCarry (b : Byte) {s : State} (h : s.flags.c = false) : aluWith .addCarry b s = aluWith .add b s :=
  aluWith_congr (by rw [h, alu_addCarry_false]) rfl rfl

theorem aluWith_subBorrow (b : Byte) {s : State} (h : s.flags.c = false) : aluWith .subBorrow b s = aluWith .sub b s :=
  aluWith_congr (by rw [h, alu_subBorrow_false]) rfl rfl

/-- Reading the operand keeps carry. -/
theorem State.readSel_carry {s : State} (h : s.flags.c = false) (src : Option Reg) : (s.readSel src).2.flags.c = false := by
  rw [State.readSel_flags, h]

theorem aluFrom_addCarry (src : Option Reg) {s : State} (h : s.flags.c = false) :
    aluFrom .addCarry src s = aluFrom .add src s := aluWith_addCarry _ (State.readSel_carry h src)

theorem aluFrom_subBorrow (src : Option Reg) {s : State} (h : s.flags.c = false) :
    aluFrom .subBorrow src s = aluFrom .sub src s := aluWith_subBorrow _ (State.readSel_carry h src)

end Sys2Proof.Machine

namespace Sys2Proof.Laws

open Sys2Proof.Machine

/-- Settles O38: the second operand is the first, as a register other than A keeps its value. -/
theorem subtractThenAddRestoresA : Obligations.SubtractThenAddRestoresA := by
  intro r b s t u
  refine ⟨fun hr hsub hadd => ?register, fun hsub hadd => ?immediate⟩
  case register =>
    rw [exec_aluRegInstr] at hsub hadd
    cases hsub
    cases hadd
    have hoperand : (aluFrom .sub (some r) s).regs.get r = s.regs.get r := aluWith_get_of_ne .sub _ s hr
    rw [aluFrom, State.readSel, hoperand]
    exact aluWith_add_sub_regs (s.regs.get r) s
  case immediate =>
    cases hsub
    cases hadd
    exact aluWith_add_sub_regs b s

/-- Settles O39: the carry taken in is 0, and the flags and A are written alike. -/
theorem carryFormsWithCarryClear : Obligations.CarryFormsWithCarryClear := by
  intro r b s h
  refine ⟨?addRegister, ?subRegister, ?addMemory, ?subMemory, ?addImmediate, ?subImmediate⟩
  case addRegister => rw [exec_aluRegInstr, exec_aluRegInstr, aluFrom_addCarry _ h]
  case subRegister => rw [exec_aluRegInstr, exec_aluRegInstr, aluFrom_subBorrow _ h]
  case addMemory => exact congrArg Host.Outcome.next (aluFrom_addCarry none h)
  case subMemory => exact congrArg Host.Outcome.next (aluFrom_subBorrow none h)
  case addImmediate => exact congrArg Host.Outcome.next (aluWith_addCarry b h)
  case subImmediate => exact congrArg Host.Outcome.next (aluWith_subBorrow b h)

end Sys2Proof.Laws
end

section
/-! Increment and decrement: the whole next state of each, carry untouched (O40, O41), and the two unimplemented
opcodes, which latch the fault (O42). -/

namespace Sys2Proof.Machine

/-! ## The result modulo 2^8 (R170, R171) -/

theorem add_one_eq_ofNat (v : Byte) : v + 1 = BitVec.ofNat 8 (v.toNat + 1) := by
  rw [BitVec.ofNat_add, BitVec.ofNat_toNat, BitVec.setWidth_eq]
  rfl

/-- Modulo 2^8, one less is 255 more. -/
theorem sub_one_eq_ofNat (v : Byte) : v - 1 = BitVec.ofNat 8 (v.toNat + 255) := by
  rw [BitVec.ofNat_add, BitVec.ofNat_toNat, BitVec.setWidth_eq, BitVec.sub_eq_add_neg]
  rfl

/-! ## Whole next state -/

/-- What replacing register `dst` by `res` makes of `s`: T4 shows the old value and T5 the new one, the register takes
it, and zero, sign and parity are written from it (R170, R171). -/
def State.regReplaced (s : State) (dst : Reg) (res : Byte) : State :=
  { s.perform [s.silent 0 .t4 (s.regs.get dst), s.silent 1 .t5 res] with
    regs := s.regs.set dst res
    flags := flagsOf s.flags.c res }

theorem replaceReg_eq_regReplaced (dst : Reg) (res : Byte) (s : State) : replaceReg dst res s = s.regReplaced dst res := by
  rw [replaceReg_eq, Flags.zsp_eq_flagsOf]
  rfl

theorem increment_eq (r : Reg) (s : State) :
    increment r s = s.regReplaced r (BitVec.ofNat 8 ((s.regs.get r).toNat + 1)) := by
  rw [increment, replaceReg_eq_regReplaced, add_one_eq_ofNat]

theorem decrement_eq (r : Reg) (s : State) :
    decrement r s = s.regReplaced r (BitVec.ofNat 8 ((s.regs.get r).toNat + 255)) := by
  rw [decrement, replaceReg_eq_regReplaced, sub_one_eq_ofNat]

/-! ## The unimplemented opcodes (R172, R248) -/

theorem exec_unimpl_inm (s : State) : exec .unimpl_inm s = .next (s.raiseUnimplemented 0x38#8) := rfl

theorem exec_unimpl_dcm (s : State) : exec .unimpl_dcm s = .next (s.raiseUnimplemented 0x39#8) := rfl

/-- The core makes no step from the state that the exception leaves. -/
theorem coreStep_raiseUnimplemented (s : State) (op : Byte) :
    coreStep (s.raiseUnimplemented op) = .fault (.coreFaulted op) :=
  coreStep_faulted _ op (s.raiseUnimplemented_fault op)

end Sys2Proof.Machine

namespace Sys2Proof.Laws

open Sys2Proof.Machine

/-- Settles O40: two transactions, the register, and the flags that follow it. -/
theorem incrementKeepsCarry : Obligations.IncrementKeepsCarry := by
  intro r op s res
  refine ⟨rfl, fun hr => ⟨encode_incInstr hr op, ?_⟩⟩
  rw [exec_incInstr r hr, increment_eq]
  rfl

/-- Settles O41: two transactions, the register, and the flags that follow it. -/
theorem decrementKeepsCarry : Obligations.DecrementKeepsCarry := by
  intro r op s res
  refine ⟨rfl, fun hr => ⟨encode_decInstr hr op, ?_⟩⟩
  rw [exec_decInstr r hr, decrement_eq]
  rfl

/-- Settles O42: raising the exception is the whole instruction, and a faulted core has no step. -/
theorem unimplementedOpcodesLatchTheFault : Obligations.UnimplementedOpcodesLatchTheFault := fun s =>
  ⟨Spells.unimplInc.encode_eq, Spells.unimplDec.encode_eq, exec_unimpl_inm s, exec_unimpl_dcm s,
    coreStep_raiseUnimplemented s 0x38#8, coreStep_raiseUnimplemented s 0x39#8⟩

end Sys2Proof.Laws
end

section
/-! The rotates: the whole next state of each (O43), and how many of them restore A and carry (O44). A byte is its top
bit before seven others, `cons h m`, and its bottom bit after seven others, `concat m l`; a rotate drops a bit at one
end and puts one in at the other. O44 says that a rotate turns a ring by one place: A alone for the circular forms,
carry and A together for the forms through carry (R182). -/

namespace Sys2Proof

/-! ## One bit at either end of the others -/

theorem exists_eq_cons {w : Nat} (v : BitVec (w + 1)) : ∃ (h : Bool) (m : BitVec w), v = BitVec.cons h m :=
  ⟨_, _, (BitVec.cons_msb_setWidth v).symm⟩

theorem exists_eq_concat {w : Nat} (v : BitVec (w + 1)) : ∃ (m : BitVec w) (l : Bool), v = BitVec.concat m l :=
  ⟨_, _, BitVec.concat_extractLsb'_getLsb.symm⟩

theorem cons_concat {w : Nat} (h l : Bool) (m : BitVec w) :
    BitVec.cons h (BitVec.concat m l) = BitVec.concat (BitVec.cons h m) l := by
  ext i hi
  rcases i with _ | i <;> simp [BitVec.getElem_cons]

theorem rotateLeft_cons {w : Nat} (h : Bool) (m : BitVec (w + 1)) :
    (BitVec.cons h m).rotateLeft 1 = BitVec.concat m h := by
  ext i hi
  rcases i with _ | i
  · simp [BitVec.getElem_cons]
  · have hlow : i ≠ w + 1 := by omega
    simp [BitVec.getElem_cons, hlow]

theorem rotateRight_concat {w : Nat} (m : BitVec (w + 1)) (l : Bool) :
    (BitVec.concat m l).rotateRight 1 = BitVec.cons l m := by
  ext i hi
  by_cases htop : i = w + 1
  · simp [htop, BitVec.getElem_cons]
  · have hlow : i < w + 1 := by omega
    simp [htop, BitVec.getElem_cons, hlow, Nat.add_comm 1 i]

theorem shiftLeft_cons_or {w : Nat} (h b : Bool) (m : BitVec w) :
    (BitVec.cons h m) <<< 1 ||| (if b then 1 else 0) = BitVec.concat m b := by
  ext i hi
  rcases i with _ | i
  · cases b <;> simp
  · have hlow : i ≠ w := by omega
    cases b <;> simp [BitVec.getElem_cons, hlow]

theorem shiftRight_concat_or {w : Nat} (l b : Bool) (m : BitVec w) :
    (BitVec.concat m l) >>> 1 ||| ((if b then 1 else 0 : BitVec (w + 1)) <<< w) = BitVec.cons b m := by
  ext i hi
  rw [BitVec.getElem_or, BitVec.getElem_shiftLeft]
  by_cases htop : i = w
  · cases b <;> simp [htop, BitVec.getElem_cons]
  · have hlow : i < w := by omega
    simp [htop, BitVec.getElem_cons, hlow, Nat.add_comm 1 i]

/-! ## A ring of `w` bits, turned `w` times -/

theorem rotateLeft_rotateLeft {w : Nat} (v : BitVec w) (m n : Nat) :
    (v.rotateLeft m).rotateLeft n = v.rotateLeft (m + n) := by
  refine BitVec.eq_of_getMsbD_eq fun i hi => ?_
  have hin := Nat.mod_lt (n + i) (show 0 < w by omega)
  simp [BitVec.getMsbD_rotateLeft, hi, hin, Nat.add_assoc]

theorem rotateLeft_zero {w : Nat} (v : BitVec w) : v.rotateLeft 0 = v := by
  ext i hi
  simp

theorem rotateLeft_one_iterate {w : Nat} (n : Nat) (v : BitVec w) :
    (fun u : BitVec w => u.rotateLeft 1)^[n] v = v.rotateLeft n := by
  induction n with
  | zero => exact (rotateLeft_zero v).symm
  | succ n ih => rw [Function.iterate_succ_apply', ih, rotateLeft_rotateLeft]

theorem rotateLeft_one_iterate_width (w : Nat) : (fun v : BitVec w => v.rotateLeft 1)^[w] = id := by
  funext v
  rw [rotateLeft_one_iterate, ← BitVec.rotateLeft_mod_eq_rotateLeft, Nat.mod_self, rotateLeft_zero, id]

/-- Turning right undoes turning left. -/
theorem rotateRight_leftInverse_rotateLeft (w : Nat) :
    Function.LeftInverse (fun v : BitVec (w + 2) => v.rotateRight 1) (fun v => v.rotateLeft 1) := by
  intro v
  obtain ⟨h, m, rfl⟩ := exists_eq_cons v
  simp only [rotateLeft_cons, rotateRight_concat]

theorem rotateRight_one_iterate_width (w : Nat) : (fun v : BitVec (w + 2) => v.rotateRight 1)^[w + 2] = id := by
  have hinv := (rotateRight_leftInverse_rotateLeft w).iterate (w + 2)
  rw [rotateLeft_one_iterate_width] at hinv
  exact funext hinv

end Sys2Proof

namespace Sys2Proof.Machine

/-! ## The four rotates of A (R180 to R183) -/

theorem rotateCarry_leftThroughCarry_cons (h : Bool) (m : BitVec 7) :
    rotateCarry .leftThroughCarry (BitVec.cons h m) = h := BitVec.msb_cons

theorem rotateCarry_rightThroughCarry_concat (l : Bool) (m : BitVec 7) :
    rotateCarry .rightThroughCarry (BitVec.concat m l) = l := BitVec.getElem_concat_zero

theorem rotateResult_leftThroughCarry_cons (h c : Bool) (m : BitVec 7) :
    rotateResult .leftThroughCarry (BitVec.cons h m) c = BitVec.concat m c :=
  congrArg (BitVec.concat · c) BitVec.extractLsb'_cons

theorem rotateResult_rightThroughCarry_concat (l c : Bool) (m : BitVec 7) :
    rotateResult .rightThroughCarry (BitVec.concat m l) c = BitVec.cons c m :=
  congrArg (BitVec.cons c) BitVec.extractLsb'_append_eq_left

theorem rotateResult_leftCircular_cons (h c : Bool) (m : BitVec 7) :
    rotateResult .leftCircular (BitVec.cons h m) c = BitVec.concat m h :=
  congrArg₂ (fun (u : BitVec 7) (b : BitVec 1) => u ++ b) BitVec.extractLsb'_cons
    BitVec.extractLsb'_append_eq_left

theorem rotateResult_rightCircular_concat (l c : Bool) (m : BitVec 7) :
    rotateResult .rightCircular (BitVec.concat m l) c = BitVec.cons l m :=
  congrArg₂ (fun (b : BitVec 1) (u : BitVec 7) => b ++ u) BitVec.extractLsb'_append_eq_right
    BitVec.extractLsb'_append_eq_left

theorem rotateResult_leftCircular (a : Byte) (c : Bool) : rotateResult .leftCircular a c = a.rotateLeft 1 := by
  obtain ⟨h, m, rfl⟩ := exists_eq_cons a
  rw [rotateResult_leftCircular_cons, rotateLeft_cons]

theorem rotateResult_rightCircular (a : Byte) (c : Bool) : rotateResult .rightCircular a c = a.rotateRight 1 := by
  obtain ⟨m, l, rfl⟩ := exists_eq_concat a
  rw [rotateResult_rightCircular_concat, rotateRight_concat]

theorem rotateResult_leftThroughCarry (a : Byte) (c : Bool) :
    rotateResult .leftThroughCarry a c = (a <<< 1) ||| (if c then 1 else 0) := by
  obtain ⟨h, m, rfl⟩ := exists_eq_cons a
  rw [rotateResult_leftThroughCarry_cons, shiftLeft_cons_or]

theorem rotateResult_rightThroughCarry (a : Byte) (c : Bool) :
    rotateResult .rightThroughCarry a c = (a >>> 1) ||| ((if c then 1 else 0 : Byte) <<< 7) := by
  obtain ⟨m, l, rfl⟩ := exists_eq_concat a
  rw [rotateResult_rightThroughCarry_concat, shiftRight_concat_or]

/-! ## Whole next state -/

/-- What a rotate to `res` with `c` rotated out makes of `s`: T4 shows the old A and T5 the new one; A and carry are
written, zero, sign and parity kept. -/
def State.aRotated (s : State) (res : Byte) (c : Bool) : State :=
  { s.perform [s.silent 0 .t4 s.regs.a, s.silent 1 .t5 res] with
    regs := s.regs.set .a res
    flags := ⟨c, s.flags.z, s.flags.s, s.flags.p⟩ }

theorem rotate_eq_aRotated (k : RotateOp) (s : State) :
    rotate k s = s.aRotated (rotateResult k s.regs.a s.flags.c) (rotateCarry k s.regs.a) := rotate_eq k s

theorem exec_rotateInstr_eq_aRotated (k : RotateOp) (x : BitVec 1) (s : State) {res : Byte} {c : Bool}
    (hres : rotateResult k s.regs.a s.flags.c = res) (hc : rotateCarry k s.regs.a = c) :
    exec (rotateInstr k x) s = .next (s.aRotated res c) := by
  rw [exec_rotateInstr, rotate_eq_aRotated, hres, hc]

/-! ## Rotates in a row -/

theorem execTimes_succ_of_next {i : Instr} {s t : State} (n : Nat) (h : exec i s = .next t) :
    execTimes (n + 1) i s = execTimes n i t := by
  rw [execTimes, h]

theorem execTimes_rotateInstr (k : RotateOp) (x : BitVec 1) (n : Nat) (s : State) :
    execTimes n (rotateInstr k x) s = .next ((rotate k)^[n] s) := by
  induction n generalizing s with
  | zero => rfl
  | succ n ih => rw [execTimes_succ_of_next n (exec_rotateInstr k x s), ih, Function.iterate_succ_apply]

/-- The registers and flags of `t` are those of `s` but for A and carry: what any number of rotates keeps. -/
structure State.SameButAAndCarry (s t : State) : Prop where
  regs : t.regs = s.regs.set .a t.regs.a
  flags : t.flags = s.flags.setCarry t.flags.c

theorem State.SameButAAndCarry.rotate {s t : State} (h : s.SameButAAndCarry t) (k : RotateOp) :
    s.SameButAAndCarry (rotate k t) := by
  obtain ⟨hregs, hflags⟩ := h
  rw [rotate_eq_aRotated]
  constructor
  · calc t.regs.set .a (rotateResult k t.regs.a t.flags.c)
      _ = (s.regs.set .a t.regs.a).set .a (rotateResult k t.regs.a t.flags.c) := by rw [← hregs]
      _ = s.regs.set .a (rotateResult k t.regs.a t.flags.c) := RegFile.set_set ..
  · calc t.flags.setCarry (rotateCarry k t.regs.a)
      _ = (s.flags.setCarry t.flags.c).setCarry (rotateCarry k t.regs.a) := by rw [← hflags]
      _ = s.flags.setCarry (rotateCarry k t.regs.a) := rfl

theorem State.sameButAAndCarry_rotate_iterate (k : RotateOp) (n : Nat) (s : State) :
    s.SameButAAndCarry ((Machine.rotate k)^[n] s) := by
  induction n with
  | zero => exact ⟨rfl, rfl⟩
  | succ n ih =>
    rw [Function.iterate_succ_apply']
    exact ih.rotate k

theorem State.SameButAAndCarry.regs_eq {s t : State} (h : s.SameButAAndCarry t) (ha : t.regs.a = s.regs.a) :
    t.regs = s.regs := by
  rw [h.regs, ha]
  rfl

theorem State.SameButAAndCarry.flags_eq {s t : State} (h : s.SameButAAndCarry t) (hc : t.flags.c = s.flags.c) :
    t.flags = s.flags := by
  rw [h.flags, hc]
  rfl

theorem State.SameButAAndCarry.zsp_eq {s t : State} (h : s.SameButAAndCarry t) :
    t.flags.z = s.flags.z ∧ t.flags.s = s.flags.s ∧ t.flags.p = s.flags.p := by
  rw [h.flags]
  exact ⟨rfl, rfl, rfl⟩

/-! ## The rings (R180 to R183) -/

/-- Carry and A, the nine bits that a rotate through carry turns (R182). -/
def State.carryRing (s : State) : BitVec 9 := BitVec.cons s.flags.c s.regs.a

theorem State.setWidth_carryRing (s : State) : s.carryRing.setWidth 8 = s.regs.a := BitVec.setWidth_cons

theorem State.msb_carryRing (s : State) : s.carryRing.msb = s.flags.c := BitVec.msb_cons

theorem State.SameButAAndCarry.regs_flags_eq {s t : State} (h : s.SameButAAndCarry t)
    (hring : t.carryRing = s.carryRing) : t.regs = s.regs ∧ t.flags = s.flags := by
  have ha : t.regs.a = s.regs.a := by rw [← State.setWidth_carryRing, hring, State.setWidth_carryRing]
  have hc : t.flags.c = s.flags.c := by rw [← State.msb_carryRing, hring, State.msb_carryRing]
  exact ⟨h.regs_eq ha, h.flags_eq hc⟩

theorem semiconj_rotate_leftCircular :
    Function.Semiconj (fun s : State => s.regs.a) (rotate .leftCircular) (fun v => v.rotateLeft 1) :=
  fun s => rotateResult_leftCircular s.regs.a s.flags.c

theorem semiconj_rotate_rightCircular :
    Function.Semiconj (fun s : State => s.regs.a) (rotate .rightCircular) (fun v => v.rotateRight 1) :=
  fun s => rotateResult_rightCircular s.regs.a s.flags.c

theorem carryRing_rotate (k : RotateOp) (s : State) :
    (rotate k s).carryRing = BitVec.cons (rotateCarry k s.regs.a) (rotateResult k s.regs.a s.flags.c) := rfl

theorem semiconj_rotate_leftThroughCarry :
    Function.Semiconj State.carryRing (rotate .leftThroughCarry) (fun v => v.rotateLeft 1) := by
  intro s
  obtain ⟨h, m, ha⟩ := exists_eq_cons s.regs.a
  calc (rotate .leftThroughCarry s).carryRing
    _ = BitVec.cons h (BitVec.concat m s.flags.c) := by
      rw [carryRing_rotate, ha, rotateCarry_leftThroughCarry_cons, rotateResult_leftThroughCarry_cons]
    _ = BitVec.concat s.regs.a s.flags.c := by rw [cons_concat, ha]
    _ = s.carryRing.rotateLeft 1 := (rotateLeft_cons ..).symm

theorem semiconj_rotate_rightThroughCarry :
    Function.Semiconj State.carryRing (rotate .rightThroughCarry) (fun v => v.rotateRight 1) := by
  intro s
  obtain ⟨m, l, ha⟩ := exists_eq_concat s.regs.a
  calc (rotate .rightThroughCarry s).carryRing
    _ = BitVec.cons l (BitVec.cons s.flags.c m) := by
      rw [carryRing_rotate, ha, rotateCarry_rightThroughCarry_concat, rotateResult_rightThroughCarry_concat]
    _ = (BitVec.concat (BitVec.cons s.flags.c m) l).rotateRight 1 := (rotateRight_concat ..).symm
    _ = s.carryRing.rotateRight 1 := by rw [← cons_concat, ← ha, State.carryRing]

/-- What `n` turns of the ring restore, `n` steps of the machine restore. -/
theorem iterate_restores {β : Type} {ring : State → β} {f : State → State} {turn : β → β} {n : Nat}
    (hring : Function.Semiconj ring f turn) (hturn : turn^[n] = id) (s : State) : ring (f^[n] s) = ring s := by
  rw [(hring.iterate_right n).eq, hturn, id]

end Sys2Proof.Machine

namespace Sys2Proof.Laws

open Sys2Proof.Machine

/-- Settles O43: each rotate is told by its result and the bit rotated out. -/
theorem rotatesMoveAAndCarryOnly : Obligations.RotatesMoveAAndCarryOnly := by
  intro x s a cin
  refine ⟨⟨encode_rotateInstr .leftCircular x, ?rlc⟩, ⟨encode_rotateInstr .rightCircular x, ?rrc⟩,
    ⟨encode_rotateInstr .leftThroughCarry x, ?ral⟩, ⟨encode_rotateInstr .rightThroughCarry x, ?rar⟩⟩
  case rlc => exact exec_rotateInstr_eq_aRotated .leftCircular x s (rotateResult_leftCircular ..) rfl
  case rrc => exact exec_rotateInstr_eq_aRotated .rightCircular x s (rotateResult_rightCircular ..) rfl
  case ral => exact exec_rotateInstr_eq_aRotated .leftThroughCarry x s (rotateResult_leftThroughCarry ..) rfl
  case rar => exact exec_rotateInstr_eq_aRotated .rightThroughCarry x s (rotateResult_rightThroughCarry ..) rfl

/-- Settles O44: the ring of eight bits is turned eight times, that of nine bits nine times. -/
theorem eightAndNineRotatesRestore : Obligations.EightAndNineRotatesRestore := by
  intro x s
  have hkeeps (k : RotateOp) (n : Nat) : s.SameButAAndCarry ((rotate k)^[n] s) :=
    State.sameButAAndCarry_rotate_iterate k n s
  refine ⟨⟨_, execTimes_rotateInstr .leftCircular x 8 s, ?rlc, (hkeeps _ _).zsp_eq⟩,
    ⟨_, execTimes_rotateInstr .rightCircular x 8 s, ?rrc, (hkeeps _ _).zsp_eq⟩,
    ⟨_, execTimes_rotateInstr .leftThroughCarry x 9 s, ?ral⟩,
    ⟨_, execTimes_rotateInstr .rightThroughCarry x 9 s, ?rar⟩⟩
  case rlc =>
    exact (hkeeps _ _).regs_eq (iterate_restores semiconj_rotate_leftCircular (rotateLeft_one_iterate_width 8) s)
  case rrc =>
    exact (hkeeps _ _).regs_eq (iterate_restores semiconj_rotate_rightCircular (rotateRight_one_iterate_width 6) s)
  case ral =>
    exact (hkeeps _ _).regs_flags_eq
      (iterate_restores semiconj_rotate_leftThroughCarry (rotateLeft_one_iterate_width 9) s)
  case rar =>
    exact (hkeeps _ _).regs_flags_eq
      (iterate_restores semiconj_rotate_rightThroughCarry (rotateRight_one_iterate_width 7) s)

end Sys2Proof.Laws
end

section
/-! Returns (O49), conditional returns taken and not (O50), and restarts with the return that undoes one (O51). -/

namespace Sys2Proof.Machine

/-! ## The return (R200) -/

/-- T5 of a return shows the low byte of the slot below. -/
theorem State.addrLow_pc_pop (s : State) : addrLow s.pop.pc = (s.slot (s.sp - 1)).extractLsb' 0 8 :=
  BitVec.extractLsb'_extractLsb'_of_le (by decide)

/-- T4 of a return shows bits 13 to 8 of the slot below. -/
theorem State.addrHigh_pc_pop (s : State) : addrHigh s.pop.pc = (s.slot (s.sp - 1)).extractLsb' 8 6 :=
  BitVec.extractLsb'_extractLsb'_of_le (by decide)

/-- A taken return: whole next state, told by the slot below (R200). -/
theorem returnNow_slot (s : State) :
    returnNow s =
      { s.perform [s.silent 0 .t4 (0b00#2 ++ (s.slot (s.sp - 1)).extractLsb' 8 6),
          s.silent 1 .t5 ((s.slot (s.sp - 1)).extractLsb' 0 8)] with
        sp := s.sp - 1 } := by
  rw [returnNow_eq, State.addrHigh_pc_pop, State.addrLow_pc_pop, BitVec.zeroExtend, BitVec.setWidth_eq_append (by decide)]
  rfl

/-! ## The restart (R203) -/

/-- A restart vector is below 64, so its slot holds it whole. -/
theorem zeroExtend_restartVector (n : BitVec 3) : (restartVector n).zeroExtend 16 = BitVec.ofNat 16 (8 * n.toNat) := by
  rw [restartVector_eq]
  exact BitVec.setWidth_ofNat_of_le_of_lt (by decide) (by omega)

/-- A restart: whole next state (R203). -/
theorem restart_vector (n : BitVec 3) (s : State) :
    restart n s =
      { s.perform [s.silent 0 .t4 0x00#8, s.silent 1 .t5 (BitVec.ofNat 8 (8 * n.toNat))] with
        sp := s.sp + 1
        stack := s.stack.set (s.sp + 1).toNat (BitVec.ofNat 16 (8 * n.toNat)) (s.sp + 1).isLt } := by
  rw [restart_eq, addrLow_restartVector, ← zeroExtend_restartVector]
  rfl

/-- A return undoes a restart (R203, R204). -/
theorem returnNow_restart_resumes (n : BitVec 3) (s : State) :
    (returnNow (restart n s)).sp = s.sp ∧ (returnNow (restart n s)).pc = s.pc := by
  rw [restart_eq]
  exact (returnNow_push_resumes ..).symm

end Sys2Proof.Machine

namespace Sys2Proof.Laws

open Sys2Proof.Machine

/-- Settles O49: the return of `returnNow_slot`, whatever the ignored bits. -/
theorem returnRetreatsTheIndex : Obligations.ReturnRetreatsTheIndex := fun x s =>
  ⟨(Spells.ret x).encode_eq, congrArg _ (returnNow_slot s)⟩

/-- Settles O50: the return's whole next state where the condition holds, else the state itself. -/
theorem conditionalReturnsFollowTheirFlag : Obligations.ConditionalReturnsFollowTheirFlag := by
  intro sense cc s
  refine ⟨encode_returnIfInstr sense cc, ?_⟩
  simp only [exec_returnIfInstr, returnIf, Flags.cond_iff, returnNow_slot]

/-- Settles O51: a restart is a push of its vector, and a return comes back to the slot left behind. -/
theorem restartPushesItsVector : Obligations.RestartPushesItsVector := by
  intro n s
  refine ⟨encode_rstInstr n, ?next, ?resumes⟩
  case next => rw [exec_rstInstr, restart_vector]
  case resumes =>
    intro x t u hrst hret
    rw [exec_rstInstr] at hrst
    cases hrst
    cases hret
    exact returnNow_restart_resumes n s

end Sys2Proof.Laws
end

section
/-! Input and output: the whole next state of the 8 inputs (O55) and of the 24 outputs (O56). -/

namespace Sys2Proof.Machine

/-! ## The byte at T2 (R62, R91) -/

/-- T2 of a command cycle drives the opcode byte itself: the command tag and opcode bits 5 to 0 (R62). -/
theorem tag_append_portBits (p : BitVec 5) : 0b01#2 ++ portBits p = opIo p := by
  rw [opIo, BitVec.append_assoc]
  rfl

/-- Below port 8 the field rr of the opcode byte is 00 (R210). -/
theorem opIo_zeros_append (p : BitVec 3) : opIo (0b00#2 ++ p) = 0b0100#4 ++ p ++ 0b1#1 := by
  decide +revert

theorem toNat_zeros_append_lt (p : BitVec 3) : (0b00#2 ++ p).toNat < 8 := by
  have hvalue : (0b00#2 ++ p).toNat = 0 <<< 3 ||| p.toNat := BitVec.toNat_append ..
  simpa [hvalue] using p.isLt

/-! ## The flag byte (R212) -/

theorem Flags.toNat_byte (f : Flags) :
    f.byte.toNat = f.s.toNat + 2 * f.z.toNat + 4 * f.p.toNat + 8 * f.c.toNat := by
  have hbits : f.byte = (((BitVec.concat 0#4 f.c).concat f.p).concat f.z).concat f.s := rfl
  simp only [hbits, BitVec.toNat_concat, BitVec.toNat_ofNat]
  omega

theorem Flags.byte_eq_ofNat (f : Flags) :
    f.byte = BitVec.ofNat 8 (f.s.toNat + 2 * f.z.toNat + 4 * f.p.toNat + 8 * f.c.toNat) := by
  rw [← Flags.toNat_byte, BitVec.ofNat_toNat, BitVec.setWidth_eq]

end Sys2Proof.Machine

namespace Sys2Proof.Laws

open Sys2Proof.Machine

/-- Settles O55: an input's five transactions, with the flag byte at T4 as a number, and A. -/
theorem inputReadsPortIntoA : Obligations.InputReadsPortIntoA := by
  intro p s v
  rw [← opIo_zeros_append]
  refine ⟨(Spells.io _).encode_eq, ?_⟩
  rw [exec_ioInstr_input _ (toNat_zeros_append_lt p), input_eq, tag_append_portBits, Flags.byte_eq_ofNat]
  rfl

/-- Settles O56: an output's three transactions, T2 driving the opcode byte, and nothing else. -/
theorem outputDrivesAOnly : Obligations.OutputDrivesAOnly := by
  intro p s hp
  refine ⟨(Spells.io p).encode_eq, ?_⟩
  rw [exec_ioInstr_output p hp, output_eq, tag_append_portBits]
  rfl

end Sys2Proof.Laws
end

section
/-! STOPPED, faulted and reset: the instruction that stops the core (O57), the poll of a STOPPED core (O9) and its frame
(O21), the faulted core (O10), the reset (O12). -/

namespace Sys2Proof.Machine

/-! ## The poll of a STOPPED core (R223) -/

theorem exec_hlt (op : Byte) (s : State) : exec (.hlt op) s = .next (halt s) := rfl

/-- To poll a STOPPED core is to halt it again: `halt_eq` says what either does. -/
theorem stoppedPoll_eq_halt {s : State} (h : s.run = .stopped) : s.stoppedPoll = halt s := by
  rw [halt, ← h]

theorem step_stopped {s : State} (hturn : s.coresTurn = true) (hfault : s.fault = .none) (hrun : s.run = .stopped) :
    step s = .next (halt s.turnTaken) := by
  rw [step_coresTurn s hturn, coreStep_stopped s.turnTaken hfault hrun, stoppedPoll_eq_halt (s := s.turnTaken) hrun]

/-- The one next state that a STOPPED core's step can answer. -/
theorem eq_halt_of_coreStep_stopped {s t : State} (hrun : s.run = .stopped) (h : coreStep s = .next t) : t = halt s := by
  obtain ⟨-, ⟨-, rfl⟩ | ⟨hrunning, -⟩⟩ := Laws.coreStep_cases h
  · exact stoppedPoll_eq_halt hrun
  · cases hrun.symm.trans hrunning

/-! ## The faulted core (R248) -/

theorem State.coresTurn_of_nil {s : State} (h : s.schedule = []) : s.coresTurn = true := by
  rw [State.coresTurn, h]

theorem State.coresTurn_of_core {s : State} {rest : List Turn} (h : s.schedule = .core :: rest) : s.coresTurn = true := by
  rw [State.coresTurn, h]

/-- On its turn, scheduled or not, a faulted core makes no step. -/
theorem step_faulted {s : State} {op : Byte} (hturn : s.coresTurn = true) (hfault : s.fault = .unimplementedOpcode op) :
    step s = .fault (.coreFaulted op) := by
  rw [step_coresTurn s hturn, coreStep_faulted s.turnTaken op hfault]

theorem step_requestInterrupt {s : State} {rest : List Turn} (h : s.schedule = .requestInterrupt :: rest) :
    step s = .next { s with schedule := rest, interruptRequest := true } := by
  rw [step, h]
  rfl

/-! ## The reset (R260) -/

/-- The reset zeroes the core and halts it. -/
theorem step_reset_eq_halt {s : State} {rest : List Turn} (h : s.schedule = .reset :: rest) :
    step s = .next (halt (State.zeroed { s with schedule := rest })) := by
  rw [Laws.step_reset h, stoppedPoll_eq_halt rfl]

/-- With the latch zeroed, only a request made in the reset's own transaction sets it. -/
theorem State.latchAfter_one_zeroed (s : State) : s.zeroed.latchAfter 1 = (s.replyAt 0).request := s.zeroed.latchAfter_one

end Sys2Proof.Machine

namespace Sys2Proof.Laws

open Sys2Proof.Machine

/-- Settles O21: of the core's fields a halt writes only `run` and the latch. -/
theorem stoppedCoreKeepsProgramState : Obligations.StoppedCoreKeepsProgramState := by
  intro s t hrun h
  rw [eq_halt_of_coreStep_stopped hrun h, halt_eq]
  exact ⟨rfl, rfl, rfl, rfl, rfl, rfl, fun _ => rfl⟩

/-- Settles O9: the core halts again, the turn used up. -/
theorem stoppedCorePolls : Obligations.StoppedCorePolls := by
  intro s hturn hfault hrun
  rw [step_stopped hturn hfault hrun, halt_eq]
  rfl

/-- Settles O57: each halting byte spells its own `HLT`, and what that does is independent of the byte. -/
theorem haltStopsAndPolls : Obligations.HaltStopsAndPolls := by
  refine ⟨(Spells.hlt (.inl rfl)).decode_append [], (Spells.hlt (.inr (.inl rfl))).decode_append [],
    (Spells.hlt (.inr (.inr rfl))).decode_append [], fun op s => ⟨rfl, ?_⟩⟩
  rw [exec_hlt, halt_eq]
  rfl

/-- Settles O10: each move by the lemma for it; the zeroed core has no fault, and its halt raises none. -/
theorem faultedCoreMakesNoStep : Obligations.FaultedCoreMakesNoStep := by
  intro s op rest hfault
  refine ⟨fun h => ?_, fun h => ?_, step_requestInterrupt, fun h => ⟨_, step_reset_eq_halt h, ?_⟩⟩
  · exact step_faulted (State.coresTurn_of_nil h) hfault
  · exact step_faulted (State.coresTurn_of_core h) hfault
  · rw [halt_eq]
    rfl

/-- Settles O12: the zeroed core's halt performs the one transaction, whose request is all that the latch can hold. -/
theorem resetReplacesTheCore : Obligations.ResetReplacesTheCore := by
  intro s rest h
  rw [step_reset_eq_halt h, halt_eq, State.perform, List.length_singleton, State.latchAfter_one_zeroed]
  rfl

end Sys2Proof.Laws
end
